-- ==== Sys2Proof/Word.lean ====
section
/-! DEFINITION. The value types of `md5_core`: words, bytes, and four words held together
(00_scope.md R6, R11; 10_state.md R15, R17). -/

namespace Sys2Proof

/-- A value of `u32` (00_scope.md R11): every state word, working value, message word and round constant (R6). -/
abbrev Word := BitVec 32

/-- One byte of a message, a block or a digest (00_scope.md R13). -/
abbrev Byte := BitVec 8

/-- Four words: A, B, C, D of the digest state register (10_state.md R15), or the working values a, b, c, d (R17). -/
structure Quad where
  a : Word
  b : Word
  c : Word
  d : Word
deriving DecidableEq, Repr

end Sys2Proof
end

