-- ==== Sys2Proof/Syntax.lean ====
section
/-! DEFINITION. The instructions of `md5_core`: one constructor for each row of spec/opcode_table.json.
The four commands are the format CMD16 (30_encoding.md R55, R56); the 64 round micro-operations are the
format ROUND6 (R62), the fixed micro-program that the round counter RC steps through. -/

namespace Sys2Proof

/-- The opcode table's 68 rows. The only encoded operand is K of FINAL, "used as it stands" (R57, R61):
six bits, so every value of the type can be encoded and none above 63 exists. The data operand DIN is a
port, not a part of the encoding; the meanings read it from the pins that the state holds. -/
inductive Instr where
  -- CMD16: the commands of 43_digest_engine.md R106 to R109
  | nop
  | init
  | absorb
  | final (k : BitVec 6)
  -- ROUND6: rounds 0..15, function F (41_round_functions.md R76, R86)
  | rnd00F | rnd01F | rnd02F | rnd03F | rnd04F | rnd05F | rnd06F | rnd07F
  | rnd08F | rnd09F | rnd10F | rnd11F | rnd12F | rnd13F | rnd14F | rnd15F
  -- ROUND6: rounds 16..31, function G (41_round_functions.md R77, R86)
  | rnd16G | rnd17G | rnd18G | rnd19G | rnd20G | rnd21G | rnd22G | rnd23G
  | rnd24G | rnd25G | rnd26G | rnd27G | rnd28G | rnd29G | rnd30G | rnd31G
  -- ROUND6: rounds 32..47, function H (41_round_functions.md R78, R86)
  | rnd32H | rnd33H | rnd34H | rnd35H | rnd36H | rnd37H | rnd38H | rnd39H
  | rnd40H | rnd41H | rnd42H | rnd43H | rnd44H | rnd45H | rnd46H | rnd47H
  -- ROUND6: rounds 48..63, function I (41_round_functions.md R79, R86)
  | rnd48I | rnd49I | rnd50I | rnd51I | rnd52I | rnd53I | rnd54I | rnd55I
  | rnd56I | rnd57I | rnd58I | rnd59I | rnd60I | rnd61I | rnd62I | rnd63I
deriving DecidableEq, Repr

end Sys2Proof
end

