-- ==== Sys2Proof/WellFormed.lean ====
section
/-! DEFINITION. Codes, commands and command errors, and which codes are well formed: those that match a row of
spec/opcode_table.json under its mask. An instruction term needs no check of its own: K is six bits by its type
(30_encoding.md R57; log entry 11). -/

namespace Sys2Proof

/-- The causes of `CmdError` (60_exceptions.md R128). -/
inductive CmdError where
  /-- Cause 1: a reserved opcode, CMD[2:0] in 4..7. -/
  | rsvdOp
  /-- Cause 2: RSV not zero, or K not zero under NOP, INIT or ABSORB. -/
  | rsvdField
  /-- Cause 3: ABSORB when FSM = DONE. -/
  | absorbAfterDone
  /-- Cause 4: FINAL when FSM = DONE. -/
  | finalAfterDone
deriving DecidableEq, Repr

/-- The commands of the legal words (30_encoding.md R59). -/
inductive Command where
  | nop
  | init
  | absorb
  | final (k : BitVec 6)
deriving DecidableEq, Repr

/-- What a command word decodes to (30_encoding.md R59). -/
inductive CmdResult where
  | legal (c : Command)
  | illegal (e : CmdError)
deriving DecidableEq, Repr

/-- A code of one of the two formats: a command word CMD16 (30_encoding.md R55) or a round index ROUND6 (R62). -/
inductive Code where
  | cmd16 (w : BitVec 16)
  | round6 (r : BitVec 6)
deriving DecidableEq, Repr

/-- The mask and match columns of a CMD16 row of spec/opcode_table.json. -/
structure TableRow where
  mask : BitVec 16
  bits : BitVec 16
deriving DecidableEq, Repr

/-- A word matches a row when its bits under the row's mask are the row's. -/
def TableRow.accepts (t : TableRow) (w : BitVec 16) : Bool := (w &&& t.mask) == t.bits

/-- The CMD16 rows: NOP, INIT, ABSORB, FINAL. -/
def nopRow : TableRow := ⟨0xFFFF, 0x0000⟩
def initRow : TableRow := ⟨0xFFFF, 0x0001⟩
def absorbRow : TableRow := ⟨0xFFFF, 0x0002⟩
def finalRow : TableRow := ⟨0xFE07, 0x0003⟩

/-- A code is well formed when some row of the opcode table has it. Every round index has a row (30_encoding.md R62). -/
def Code.wf : Code → Bool
  | .cmd16 w => nopRow.accepts w || initRow.accepts w || absorbRow.accepts w || finalRow.accepts w
  | .round6 _ => true

end Sys2Proof
end

