-- ==== Sys2Proof/Decode.lean ====
section
/-! DEFINITION. Decoding and encoding (30_encoding.md). A command word decodes to exactly one result, a command or
a named error (R59); every six-bit round index decodes to its round micro-operation (R62). After them stand
the encoder and the opcode table's own numbering of a word. -/

namespace Sys2Proof

/-- The OP field, CMD[2:0] (30_encoding.md R55). -/
def cmdOp (w : BitVec 16) : BitVec 3 := w.extractLsb' 0 3

/-- The K field, CMD[8:3] (30_encoding.md R55, R57). -/
def cmdK (w : BitVec 16) : BitVec 6 := w.extractLsb' 3 6

/-- The RSV field, CMD[15:9] (30_encoding.md R55, R58). -/
def cmdRsv (w : BitVec 16) : BitVec 7 := w.extractLsb' 9 7

/-- The instruction a command is: its row of the opcode table. -/
def Command.toInstr : Command → Instr
  | .nop => .nop
  | .init => .init
  | .absorb => .absorb
  | .final k => .final k

/-- `decode(CMD)` of 30_encoding.md R59, total on all 65536 words. The check order is the priority of the causes
(60_exceptions.md R129): reserved opcode, then reserved field. -/
def decodeCmd (w : BitVec 16) : CmdResult :=
  if 4 ≤ (cmdOp w).toNat then .illegal .rsvdOp
  else if cmdRsv w ≠ 0 then .illegal .rsvdField
  else if cmdOp w ≠ 3 ∧ cmdK w ≠ 0 then .illegal .rsvdField
  else if cmdOp w = 0 then .legal .nop
  else if cmdOp w = 1 then .legal .init
  else if cmdOp w = 2 then .legal .absorb
  else .legal (.final (cmdK w))

/-- The round micro-operations with r[5:4] = 0, function F (30_encoding.md R63). -/
def roundsF : List Instr := [
  .rnd00F, .rnd01F, .rnd02F, .rnd03F, .rnd04F, .rnd05F, .rnd06F, .rnd07F,
  .rnd08F, .rnd09F, .rnd10F, .rnd11F, .rnd12F, .rnd13F, .rnd14F, .rnd15F]

/-- The round micro-operations with r[5:4] = 1, function G (30_encoding.md R63). -/
def roundsG : List Instr := [
  .rnd16G, .rnd17G, .rnd18G, .rnd19G, .rnd20G, .rnd21G, .rnd22G, .rnd23G,
  .rnd24G, .rnd25G, .rnd26G, .rnd27G, .rnd28G, .rnd29G, .rnd30G, .rnd31G]

/-- The round micro-operations with r[5:4] = 2, function H (30_encoding.md R63). -/
def roundsH : List Instr := [
  .rnd32H, .rnd33H, .rnd34H, .rnd35H, .rnd36H, .rnd37H, .rnd38H, .rnd39H,
  .rnd40H, .rnd41H, .rnd42H, .rnd43H, .rnd44H, .rnd45H, .rnd46H, .rnd47H]

/-- The round micro-operations with r[5:4] = 3, function I (30_encoding.md R63). -/
def roundsI : List Instr := [
  .rnd48I, .rnd49I, .rnd50I, .rnd51I, .rnd52I, .rnd53I, .rnd54I, .rnd55I,
  .rnd56I, .rnd57I, .rnd58I, .rnd59I, .rnd60I, .rnd61I, .rnd62I, .rnd63I]

/-- The round micro-operations in the order of r (30_encoding.md R62). -/
def roundInstrs : List Instr := roundsF ++ roundsG ++ roundsH ++ roundsI

theorem roundInstrs_length : roundInstrs.length = 64 := rfl

/-- The micro-operation of round r: "every value of r[5:0] is used" (30_encoding.md R62). -/
def decodeRound (r : BitVec 6) : Instr := roundInstrs[r.toNat]'(roundInstrs_length ▸ r.isLt)

/-- Decode a code of either format to an instruction, or reject it by the name of its command error. -/
def decode : Code → Except CmdError Instr
  | .cmd16 w =>
    match decodeCmd w with
    | .legal c => .ok c.toInstr
    | .illegal e => .error e
  | .round6 r => .ok (decodeRound r)

/-- The command word with fields RSV = 0, K and OP (30_encoding.md R55). -/
def cmdWord (k : BitVec 6) (op : BitVec 3) : BitVec 16 := 0#7 ++ k ++ op

/-- The code of an instruction: the command words of 30_encoding.md R59, the round index of R62. -/
def encode : Instr → Code
  | .nop => .cmd16 (cmdWord 0 0)
  | .init => .cmd16 (cmdWord 0 1)
  | .absorb => .cmd16 (cmdWord 0 2)
  | .final k => .cmd16 (cmdWord k 3)
  | .rnd00F => .round6 0
  | .rnd01F => .round6 1
  | .rnd02F => .round6 2
  | .rnd03F => .round6 3
  | .rnd04F => .round6 4
  | .rnd05F => .round6 5
  | .rnd06F => .round6 6
  | .rnd07F => .round6 7
  | .rnd08F => .round6 8
  | .rnd09F => .round6 9
  | .rnd10F => .round6 10
  | .rnd11F => .round6 11
  | .rnd12F => .round6 12
  | .rnd13F => .round6 13
  | .rnd14F => .round6 14
  | .rnd15F => .round6 15
  | .rnd16G => .round6 16
  | .rnd17G => .round6 17
  | .rnd18G => .round6 18
  | .rnd19G => .round6 19
  | .rnd20G => .round6 20
  | .rnd21G => .round6 21
  | .rnd22G => .round6 22
  | .rnd23G => .round6 23
  | .rnd24G => .round6 24
  | .rnd25G => .round6 25
  | .rnd26G => .round6 26
  | .rnd27G => .round6 27
  | .rnd28G => .round6 28
  | .rnd29G => .round6 29
  | .rnd30G => .round6 30
  | .rnd31G => .round6 31
  | .rnd32H => .round6 32
  | .rnd33H => .round6 33
  | .rnd34H => .round6 34
  | .rnd35H => .round6 35
  | .rnd36H => .round6 36
  | .rnd37H => .round6 37
  | .rnd38H => .round6 38
  | .rnd39H => .round6 39
  | .rnd40H => .round6 40
  | .rnd41H => .round6 41
  | .rnd42H => .round6 42
  | .rnd43H => .round6 43
  | .rnd44H => .round6 44
  | .rnd45H => .round6 45
  | .rnd46H => .round6 46
  | .rnd47H => .round6 47
  | .rnd48I => .round6 48
  | .rnd49I => .round6 49
  | .rnd50I => .round6 50
  | .rnd51I => .round6 51
  | .rnd52I => .round6 52
  | .rnd53I => .round6 53
  | .rnd54I => .round6 54
  | .rnd55I => .round6 55
  | .rnd56I => .round6 56
  | .rnd57I => .round6 57
  | .rnd58I => .round6 58
  | .rnd59I => .round6 59
  | .rnd60I => .round6 60
  | .rnd61I => .round6 61
  | .rnd62I => .round6 62
  | .rnd63I => .round6 63

/-- The instruction this decoder reads from an instruction whose bits are `w`, in the opcode table's numbering.
The table gives a ROUND6 row six bits (one whole byte) and a CMD16 row sixteen. -/
def decodeTableWord (nbits w : Nat) : Option Instr :=
  if nbits ≤ 8 then
    if w < 64 then some (decodeRound (BitVec.ofNat 6 w)) else none
  else if w < 65536 then
    match decodeCmd (BitVec.ofNat 16 w) with
    | .legal c => some c.toInstr
    | .illegal _ => none
  else none

end Sys2Proof
end

