-- ==== Sys2Proof/Config.lean ====
section
/-! DEFINITION. What the spec leaves open: the latencies (00_scope.md R8) and the free values
(93_implementation_defined.md I7, I8). Every constant here is opaque: nothing can be proved about which value it has,
so a theorem about the model holds for every value. -/

namespace Sys2Proof

/-- LAT_ABSORB, "a positive integer, with no upper bound assumed" (00_scope.md R8; log entry 2). -/
opaque Config.latAbsorb : PNat

/-- LAT_FINAL1, for a one-tail FINAL, k ≤ 55 (00_scope.md R8; log entry 2). -/
opaque Config.latFinal1 : PNat

/-- LAT_FINAL2, for a two-tail FINAL, k ≥ 56 (00_scope.md R8; log entry 2). -/
opaque Config.latFinal2 : PNat

/-- What the hidden word in a slot holds when its value is unspecified (10_state.md R36, I8; log entry 6): slots 0 to 3
are a, b, c, d, slots 4 to 19 are X[0..15]. The first argument is the draw counter of the state. -/
opaque Config.freeWord (draw slot : Nat) : Word

/-- What RC holds when its value is unspecified (10_state.md R20, R36, I8; log entry 6). -/
opaque Config.freeRc (draw : Nat) : BitVec 7

/-- What FIN (slot 0) and TAIL2 (slot 1) hold when their values are unspecified (10_state.md R21, R36, I8; log entry 6). -/
opaque Config.freeBit (draw slot : Nat) : Bool

/-- What DIGEST shows while BUSY = 1, "any value of the port's width" (20_memory.md R54, I7; log entry 7). -/
opaque Config.freeDigest (draw : Nat) : BitVec 128

/-- The words from which HEX is shown while BUSY = 1: "a model that draws a DS rather than a raw 256-bit value stays
within the shape" (93_implementation_defined.md I7; log entry 7). -/
opaque Config.freeHexWord (draw slot : Nat) : Word

end Sys2Proof
end

