-- ==== Sys2Proof/Machine/Padding.lean ====
section
/-! DEFINITION. The sub-block `padding_and_block_decoder` (42_padding_decoder.md). -/

namespace Sys2Proof.Machine

/-- `LE32(v)`: v[7:0], v[15:8], v[23:16], v[31:24] (00_scope.md R13). -/
def le32 (v : Word) : List Byte :=
  [v.extractLsb' 0 8, v.extractLsb' 8 8, v.extractLsb' 16 8, v.extractLsb' 24 8]

/-- `0x00^z`, a run of z zero bytes (00_scope.md R13). -/
def zeros (z : Nat) : List Byte := List.replicate z 0

/-- The number whose byte lane i is byte i of the list: lane 0 is the least significant. -/
def lanesToNat : List Byte → Nat
  | [] => 0
  | b :: bs => b.toNat + 256 * lanesToNat bs

/-- Byte j of a block. -/
def byteAt (y : List Byte) (j : Nat) : Byte := y.getD j 0

/-- The little-endian word of bytes 4i..4i+3, no byte sign-extended (R88). -/
def blockWord (y : List Byte) (i : Nat) : Word :=
  (byteAt y (4 * i)).zeroExtend 32
    ||| ((byteAt y (4 * i + 1)).zeroExtend 32 <<< 8)
    ||| ((byteAt y (4 * i + 2)).zeroExtend 32 <<< 16)
    ||| ((byteAt y (4 * i + 3)).zeroExtend 32 <<< 24)

/-- `decodeBlock`: X[i] for i in 0..15 (R88). -/
def decodeBlock (y : List Byte) : Vector Word 16 := Vector.ofFn fun i => blockWord y i.val

/-- The length field: `LE32(L)` and four zero bytes, the high word always zero (R92, R93). -/
def lengthField (l : Word) : List Byte := le32 l ++ zeros 4

/-- L = (8n) mod 2^32 (R92). -/
def bitLength (n : Nat) : Word := BitVec.ofNat 32 (8 * n % 2 ^ 32)

/-- z = (55 - n) mod 64, the non-negative remainder (R90). -/
def padZeros (n : Nat) : Nat := ((55 - (n : Int)) % 64).toNat

/-- `pad(m)` over the whole message (R90). -/
def pad (m : List Byte) : List Byte :=
  m ++ [0x80] ++ zeros (padZeros m.length) ++ lengthField (bitLength m.length)

/-- TB1 of `tails(rem, L)` (R94): with the length field when the remainder is at most 55 bytes, else without. -/
def tb1 (rem : List Byte) (l : Word) : List Byte :=
  if rem.length ≤ 55 then rem ++ [0x80] ++ zeros (55 - rem.length) ++ lengthField l
  else rem ++ [0x80] ++ zeros (63 - rem.length)

/-- TB2, built "from L alone and never from DIN" (R94, R95). -/
def tb2 (l : Word) : List Byte := zeros 56 ++ lengthField l

/-- `tails(rem, L)`, the tail-block builder (R94). -/
def tails (rem : List Byte) (l : Word) : List (List Byte) :=
  if rem.length ≤ 55 then [tb1 rem l] else [tb1 rem l, tb2 l]

/-- The 64-byte blocks of a byte sequence, the bytes after the last whole block left out (R96). -/
def fullBlocks (m : List Byte) : List (List Byte) :=
  (List.range (m.length / 64)).map fun b => (m.drop (64 * b)).take 64

/-- The remainder: the n mod 64 bytes after the last full block (00_scope.md, glossary; R96). -/
def remainder (m : List Byte) : List Byte := m.drop (64 * (m.length / 64))

end Sys2Proof.Machine
end

