-- ==== Sys2Proof/Machine/Arith.lean ====
section
/-! DEFINITION. The 32-bit arithmetic (40_word32_arith.md): `word32_adder`, `rotl32_shifter` and the bitwise logic.
No operation here writes a flag (R74). -/

namespace Sys2Proof.Machine

/-- `add32(a, b)`: the exact sum of the naturals, reduced modulo 2^32 (R68). -/
def add32 (a b : Word) : Word := BitVec.ofNat 32 ((a.toNat + b.toNat) % 2 ^ 32)

/-- `rotateLeft32(v, s)` with its formula; both shifts fill with zeros, and s = 0 is the identity (R70, R71). -/
def rotl (v : Word) (s : BitVec 5) : Word := (v <<< s.toNat) ||| (v >>> (32 - s.toNat))

/-- `~v` = v ^ 0xffffffff (R72). -/
def not32 (v : Word) : Word := v ^^^ 0xffffffff

/-- `a & b` (R73). -/
def and32 (a b : Word) : Word := a &&& b

/-- `a | b` (R73). -/
def or32 (a b : Word) : Word := a ||| b

/-- `a ^ b` (R73). -/
def xor32 (a b : Word) : Word := a ^^^ b

end Sys2Proof.Machine
end

