-- ==== Sys2Proof/Machine/RoundFunctions.lean ====
section
/-! DEFINITION. `cmn`, the round functions F, G, H, I and the round step (41_round_functions.md). -/

namespace Sys2Proof.Machine

/-- `cmn(q, a, b, x, s, t)`: the rotation stands after the four-operand sum and before the addition of b (R75). -/
def cmn (q a b x : Word) (s : BitVec 5) (t : Word) : Word :=
  add32 (rotl (add32 (add32 a q) (add32 x t)) s) b

/-- `fF(b, c, d) = (b & c) | ((~b) & d)` (R76). -/
def fF (b c d : Word) : Word := or32 (and32 b c) (and32 (not32 b) d)

/-- `fG(b, c, d) = (b & d) | (c & (~d))` (R77). -/
def fG (b c d : Word) : Word := or32 (and32 b d) (and32 c (not32 d))

/-- `fH(b, c, d) = b ^ c ^ d` (R78). -/
def fH (b c d : Word) : Word := xor32 (xor32 b c) d

/-- `fI(b, c, d) = c ^ (b | (~d))` (R79). -/
def fI (b c d : Word) : Word := xor32 c (or32 b (not32 d))

/-- The round functions F, G, H, I: each is `cmn` applied to its mixing function (R76 to R79). -/
def roundF (a b c d x : Word) (s : BitVec 5) (t : Word) : Word := cmn (fF b c d) a b x s t
def roundG (a b c d x : Word) (s : BitVec 5) (t : Word) : Word := cmn (fG b c d) a b x s t
def roundH (a b c d x : Word) (s : BitVec 5) (t : Word) : Word := cmn (fH b c d) a b x s t
def roundI (a b c d x : Word) (s : BitVec 5) (t : Word) : Word := cmn (fI b c d) a b x s t

/-- The function that the select column g of the ROM names (30_encoding.md R63; R86's `[F, G, H, I][g(r)]`). -/
def RoundFn.apply : RoundFn → Word → Word → Word → Word → Word → BitVec 5 → Word → Word
  | .f => roundF
  | .g => roundG
  | .h => roundH
  | .i => roundI

/-- The round step with one entry of the ROM: (a, b, c, d) <- (d, new, b, c), all four written at once (R86). -/
def roundStepWith (e : RoundEntry) (x : Vector Word 16) (w : Quad) : Quad :=
  ⟨w.d, e.g.apply w.a w.b w.c w.d x[e.k] e.s e.t, w.b, w.c⟩

/-- Round step r (R86): round r of the ROM on the working values and the message buffer. -/
def roundStep (r : BitVec 6) (x : Vector Word 16) (w : Quad) : Quad := roundStepWith (rom r) x w

end Sys2Proof.Machine
end

