-- ==== Sys2Proof/Machine/Compress.lean ====
section
/-! DEFINITION. The compression function and the digest of a whole message (43_digest_engine.md R101, R102, R116). -/

namespace Sys2Proof.Machine

/-- ACCUMULATE, the add-back: (A ⊞ a, B ⊞ b, C ⊞ c, D ⊞ d), all four words together (R102). -/
def accumulate (ds wv : Quad) : Quad :=
  ⟨add32 ds.a wv.a, add32 ds.b wv.b, add32 ds.c wv.c, add32 ds.d wv.d⟩

/-- The first n rounds, in increasing order (R101; 41_round_functions.md R81). -/
def rounds (x : Vector Word 16) (w : Quad) : Nat → Quad
  | 0 => w
  | n + 1 => roundStep (BitVec.ofNat 6 n) x (rounds x w n)

/-- `compress(DS, X)`: 64 rounds from DS, then the add-back (R101). -/
def compress (ds : Quad) (x : Vector Word 16) : Quad := accumulate ds (rounds x ds 64)

/-- Round r in RFC 1321's fixed-name form: it writes one of the names a, d, c, b in turn, with the other three in
rotated argument order (41_round_functions.md R87). -/
def namedRound (r : BitVec 6) (x : Vector Word 16) (w : Quad) : Quad :=
  let e := rom r
  match r.toNat % 4 with
  | 0 => { w with a := e.g.apply w.a w.b w.c w.d x[e.k] e.s e.t }
  | 1 => { w with d := e.g.apply w.d w.a w.b w.c x[e.k] e.s e.t }
  | 2 => { w with c := e.g.apply w.c w.d w.a w.b x[e.k] e.s e.t }
  | _ => { w with b := e.g.apply w.b w.c w.d w.a x[e.k] e.s e.t }

/-- The first n rounds in the fixed-name form (R87). -/
def namedRounds (x : Vector Word 16) (w : Quad) : Nat → Quad
  | 0 => w
  | n + 1 => namedRound (BitVec.ofNat 6 n) x (namedRounds x w n)

/-- Compress blocks in order, each from the previous block's result (R120; 20_memory.md R49). -/
def compressBlocks (ds : Quad) (blocks : List (List Byte)) : Quad :=
  blocks.foldl (fun h y => compress h (decodeBlock y)) ds

/-- The final A, B, C, D for the message m: the blocks of `pad(m)`, in order, starting from the IV (R116). -/
def messageState (m : List Byte) : Quad := compressBlocks iv (fullBlocks (pad m))

end Sys2Proof.Machine
end

