-- ==== Sys2Proof/Machine/State.lean ====
section
/-! DEFINITION. The state of `md5_core` (10_state.md), what the host drives, the state after reset
(70_reset_and_hazards.md R143), and the reasons a step can stop. -/

namespace Sys2Proof.Machine

/-- PH: RUN means that a compression is in progress (10_state.md R21). -/
inductive Phase where
  | idle | run
deriving DecidableEq, Repr

/-- FSM, the digest-engine state (10_state.md R22). -/
inductive Fsm where
  | init | processing | finalizing | done
deriving DecidableEq, Repr

/-- What the host drives on the input ports in one step: the reset input (70_reset_and_hazards.md R143), cmd_valid and
CMD (10_state.md R27), DIN (R28). -/
structure Pins where
  reset : Bool
  cmdValid : Bool
  cmd : BitVec 16
  din : BitVec 512
deriving DecidableEq, Repr

/-- A host that neither resets nor offers a command. -/
def Pins.quiet : Pins := ⟨false, false, 0, 0⟩

/-- Everything the spec gives the machine (10_state.md), and two fields of the model's own. -/
structure State where
  /-- DS = (A, B, C, D) (R15). -/
  ds : Quad
  /-- The working values a, b, c, d (R17). -/
  wv : Quad
  /-- The message word buffer X[0..15] (R18). -/
  x : Vector Word 16
  /-- The round counter RC, 7 bits (R20). -/
  rc : BitVec 7
  /-- PH (R21). -/
  ph : Phase
  /-- FIN: the command in progress is FINAL (R21). -/
  fin : Bool
  /-- TAIL2: a second tail block is still to be compressed (R21). -/
  tail2 : Bool
  /-- FSM (R22). -/
  fsm : Fsm
  /-- LEN: the message's bit length so far, modulo 2^32 (R23). -/
  len : Word
  /-- ERR, the sticky error flag (R24). -/
  err : Bool
  /-- ERRCAUSE, 3 bits (R25). -/
  errCause : BitVec 3
  /-- The model's own: what the host drives in this step and the ones after it, this step first; quiet once the list
  is used up (log entry 3). -/
  inputs : List Pins
  /-- The model's own: the counter to which the free values of Config are applied (log entry 8). -/
  draw : Nat
deriving DecidableEq, Repr

/-- The state right after reset (70_reset_and_hazards.md R143). The hidden registers, which that rule leaves
unspecified, are 0: DESIGN CHOICE, log entry 5. The host drives nothing: DESIGN CHOICE, log entry 3. -/
def State.reset : State where
  ds := iv
  wv := ⟨0, 0, 0, 0⟩
  x := Vector.replicate 16 0
  rc := 0
  ph := .idle
  fin := false
  tail2 := false
  fsm := .init
  len := 0
  err := false
  errCause := 0
  inputs := []
  draw := 0

/-- The reasons the machine stops with a fault. -/
inductive Fault where
  /-- Raised by `step` alone, when PH = RUN and RC is 65..127, values 10_state.md R20 says RC does not hold. Safe:
  no step from a state that meets the invariant reaches such a state (log entry 9). -/
  | rcOutOfRange
deriving DecidableEq, Repr

/-- The reasons an instruction is refused. -/
inductive Refusal where
  /-- For an arm of `exec` without a meaning; no arm of this model raises it. Safe. -/
  | notModelled (mnemonic : String)
deriving DecidableEq, Repr

end Sys2Proof.Machine
end

