-- ==== Sys2Proof/Machine/Operands.lean ====
section
/-! DEFINITION. The operand forms: the pins of the present step, and the DIN lanes of ABSORB and FINAL
(20_memory.md R40; 30_encoding.md R61). -/

namespace Sys2Proof.Machine

/-- What the host drives in this step; quiet when nothing is listed (log entry 3). -/
def State.pins (s : State) : Pins := s.inputs.headD Pins.quiet

/-- `DinByte(j) = DIN[8j+7:8j]` (20_memory.md R40). -/
def dinByte (din : BitVec 512) (j : Nat) : Byte := din.extractLsb' (8 * j) 8

/-- DIN lanes 0..k-1, in lane order: the remainder that FINAL(k) takes; lanes k..63 are not read
(30_encoding.md R61; 42_padding_decoder.md R97). -/
def dinLanes (din : BitVec 512) (k : Nat) : List Byte := (List.range k).map (dinByte din)

/-- All 64 lanes, the block that ABSORB takes (30_encoding.md R61). -/
def dinBlock (din : BitVec 512) : List Byte := dinLanes din 64

end Sys2Proof.Machine
end

