-- ==== Sys2Proof/Machine/Flags.lean ====
section
/-! DEFINITION. The status bits: the codes of FSM and of the causes, BUSY, cmd_ready and STATUS[7:0]. There are no
condition codes and no arithmetic flags (10_state.md R34). -/

namespace Sys2Proof

/-- The cause codes (60_exceptions.md R128); 0 is "no error", and 5, 6, 7 are never produced. -/
def CmdError.code : CmdError → BitVec 3
  | .rsvdOp => 1
  | .rsvdField => 2
  | .absorbAfterDone => 3
  | .finalAfterDone => 4

namespace Machine

/-- The FSM encoding (10_state.md R22). -/
def Fsm.code : Fsm → BitVec 2
  | .init => 0b00
  | .processing => 0b01
  | .finalizing => 0b10
  | .done => 0b11

/-- BUSY "is 1 exactly when PH = RUN" (10_state.md R26). -/
def State.busy (s : State) : Bool := s.ph == .run

/-- `cmd_ready`, "equal to NOT BUSY" (10_state.md R27). -/
def State.cmdReady (s : State) : Bool := !s.busy

/-- A command is accepted "in a step where cmd_valid = 1 and cmd_ready = 1" (43_digest_engine.md R104). -/
def State.accepts (s : State) : Bool := s.pins.cmdValid && s.cmdReady

/-- STATUS[7:0]: 0, ERRCAUSE, ERR, BUSY, FSM from bit 7 down (10_state.md R29). -/
def State.status (s : State) : BitVec 8 :=
  0#1 ++ s.errCause ++ BitVec.ofBool s.err ++ BitVec.ofBool s.busy ++ s.fsm.code

end Machine
end Sys2Proof
end

