-- ==== Sys2Proof/Machine/Ops.lean ====
section
/-! DEFINITION. The named operations over the registers: entering a command error and clearing it, starting a block,
the round and add-back micro-steps, the reset event, and what becomes of registers whose value is unspecified. -/

namespace Sys2Proof.Machine

/-- Error entry, `raise CmdError(e)` (60_exceptions.md R130): the first cause is kept (R133), nothing else changes (R134). -/
def raiseCmdError (e : CmdError) (s : State) : State :=
  if s.err then s else { s with err := true, errCause := e.code }

/-- What INIT and reset do to the error flag, and nothing else does (60_exceptions.md R132). There is no return from
an error: no program counter, mode or handler was saved (R130). -/
def clearError (s : State) : State := { s with err := false, errCause := 0 }

/-- LOAD_IV (43_digest_engine.md R102). -/
def loadIv (s : State) : State := { s with ds := iv }

/-- The registers of 10_state.md R36 take free values: they are unspecified between commands and after reset
(93_implementation_defined.md I8; log entry 6). -/
def freeHidden (s : State) : State :=
  { s with
    wv := ⟨Config.freeWord s.draw 0, Config.freeWord s.draw 1, Config.freeWord s.draw 2, Config.freeWord s.draw 3⟩
    x := Vector.ofFn fun i => Config.freeWord s.draw (4 + i.val)
    rc := Config.freeRc s.draw
    fin := Config.freeBit s.draw 0
    tail2 := Config.freeBit s.draw 1 }

/-- Begin the compression of a block: X <- decodeBlock, (a, b, c, d) <- (A, B, C, D), RC <- 0, PH <- RUN
(43_digest_engine.md R111, R112, R114). -/
def startBlock (y : List Byte) (s : State) : State :=
  { s with x := decodeBlock y, wv := s.ds, rc := 0, ph := .run }

/-- The round micro-step: round step r on a, b, c, d with X, then RC <- RC + 1 (43_digest_engine.md R113). -/
def roundMicroStep (r : BitVec 6) (s : State) : State :=
  { s with wv := roundStep r s.x s.wv, rc := s.rc + 1 }

/-- PH <- IDLE, and FSM <- DONE after a FINAL (43_digest_engine.md R114, its else branch). The hidden registers are
unspecified from here on (10_state.md R36). -/
def finishCommand (s : State) : State :=
  freeHidden { s with ph := .idle, fsm := if s.fin then .done else s.fsm }

/-- The add-back micro-step (43_digest_engine.md R114): ACCUMULATE, then the second tail block from the DS just written,
or the end of the command. -/
def addBack (s : State) : State :=
  let t := { s with ds := accumulate s.ds s.wv }
  if t.tail2 then startBlock (tb2 t.len) { t with tail2 := false } else finishCommand t

/-- The reset event, from any state (70_reset_and_hazards.md R143, R144): the compression in progress is abandoned,
and the registers whose value after reset is unspecified take free values (log entry 6). -/
def resetEvent (s : State) : State :=
  freeHidden (clearError (loadIv { s with fsm := .init, len := 0, ph := .idle }))

/-- What every step does beside its event: the host's next pins come up, and the free values move on (log entries 3, 8). -/
def State.tick (s : State) : State := { s with inputs := s.inputs.tail, draw := s.draw + 1 }

end Sys2Proof.Machine
end

