-- ==== Sys2Proof/Machine/Commands.lean ====
section
/-! DEFINITION. The meanings of the four commands (43_digest_engine.md R105 to R109), at the micro-step level: ABSORB and
FINAL do what their acceptance step does (R111, R112); the rounds and the add-back follow, step by step. -/

namespace Sys2Proof.Machine

/-- "While ERR = 1, every accepted command except a legal INIT ... has no effect at all" (60_exceptions.md R131). -/
def unlessError (s t : State) : State := if s.err then s else t

/-- LEN <- (LEN + n) mod 2^32 (10_state.md R23). -/
def addLen (n : Nat) (s : State) : State := { s with len := BitVec.ofNat 32 ((s.len.toNat + n) % 2 ^ 32) }

/-- Accept ABSORB, after the checks of R105 (43_digest_engine.md R111). -/
def acceptAbsorb (s : State) : State :=
  let t := addLen 512 { s with fin := false, tail2 := false, fsm := .processing }
  startBlock (dinBlock s.pins.din) t

/-- Accept FINAL(k), after the checks of R105; TB1 is built from LEN after its update (43_digest_engine.md R112). -/
def acceptFinal (k : BitVec 6) (s : State) : State :=
  let t := addLen (8 * k.toNat) { s with fin := true, tail2 := decide (56 ≤ k.toNat), fsm := .finalizing }
  startBlock (tb1 (dinLanes s.pins.din k.toNat) t.len) t

/-- NOP: no effect (43_digest_engine.md R106). -/
def execNop (s : State) : Host.Outcome State Fault Refusal := .next s

/-- INIT: LOAD_IV, LEN <- 0, FSM <- INIT, the error cleared; it acts with ERR = 1 too (43_digest_engine.md R107). -/
def execInit (s : State) : Host.Outcome State Fault Refusal :=
  .next (clearError (loadIv { s with len := 0, fsm := .init }))

/-- ABSORB (43_digest_engine.md R105, R108): CmdError(3) when FSM = DONE (log entry 12), else R111. -/
def execAbsorb (s : State) : Host.Outcome State Fault Refusal :=
  .next (unlessError s (if s.fsm = .done then raiseCmdError .absorbAfterDone s else acceptAbsorb s))

/-- FINAL(k) (43_digest_engine.md R105, R109): CmdError(4) when FSM = DONE (log entry 12), else R112. -/
def execFinal (k : BitVec 6) (s : State) : Host.Outcome State Fault Refusal :=
  .next (unlessError s (if s.fsm = .done then raiseCmdError .finalAfterDone s else acceptFinal k s))

end Sys2Proof.Machine
end

