-- ==== Sys2Proof/Machine/Rounds.lean ====
section
/-! DEFINITION. The meanings of the 64 round micro-operations (41_round_functions.md R82, R86; the micro-step
of 43_digest_engine.md R113). Each is the shared micro-step at its own row of the round table. -/

namespace Sys2Proof.Machine

/-- RND00_F (R76, R86): function F, X[0], rotate 7, T = 0xd76aa478. -/
def execRnd00F (s : State) : Host.Outcome State Fault Refusal := .next (roundMicroStep 0 s)

/-- RND01_F (R76, R86): function F, X[1], rotate 12, T = 0xe8c7b756. -/
def execRnd01F (s : State) : Host.Outcome State Fault Refusal := .next (roundMicroStep 1 s)

/-- RND02_F (R76, R86): function F, X[2], rotate 17, T = 0x242070db. -/
def execRnd02F (s : State) : Host.Outcome State Fault Refusal := .next (roundMicroStep 2 s)

/-- RND03_F (R76, R86): function F, X[3], rotate 22, T = 0xc1bdceee. -/
def execRnd03F (s : State) : Host.Outcome State Fault Refusal := .next (roundMicroStep 3 s)

/-- RND04_F (R76, R86): function F, X[4], rotate 7, T = 0xf57c0faf. -/
def execRnd04F (s : State) : Host.Outcome State Fault Refusal := .next (roundMicroStep 4 s)

/-- RND05_F (R76, R86): function F, X[5], rotate 12, T = 0x4787c62a. -/
def execRnd05F (s : State) : Host.Outcome State Fault Refusal := .next (roundMicroStep 5 s)

/-- RND06_F (R76, R86): function F, X[6], rotate 17, T = 0xa8304613. -/
def execRnd06F (s : State) : Host.Outcome State Fault Refusal := .next (roundMicroStep 6 s)

/-- RND07_F (R76, R86): function F, X[7], rotate 22, T = 0xfd469501. -/
def execRnd07F (s : State) : Host.Outcome State Fault Refusal := .next (roundMicroStep 7 s)

/-- RND08_F (R76, R86): function F, X[8], rotate 7, T = 0x698098d8. -/
def execRnd08F (s : State) : Host.Outcome State Fault Refusal := .next (roundMicroStep 8 s)

/-- RND09_F (R76, R86): function F, X[9], rotate 12, T = 0x8b44f7af. -/
def execRnd09F (s : State) : Host.Outcome State Fault Refusal := .next (roundMicroStep 9 s)

/-- RND10_F (R76, R86): function F, X[10], rotate 17, T = 0xffff5bb1. -/
def execRnd10F (s : State) : Host.Outcome State Fault Refusal := .next (roundMicroStep 10 s)

/-- RND11_F (R76, R86): function F, X[11], rotate 22, T = 0x895cd7be. -/
def execRnd11F (s : State) : Host.Outcome State Fault Refusal := .next (roundMicroStep 11 s)

/-- RND12_F (R76, R86): function F, X[12], rotate 7, T = 0x6b901122. -/
def execRnd12F (s : State) : Host.Outcome State Fault Refusal := .next (roundMicroStep 12 s)

/-- RND13_F (R76, R86): function F, X[13], rotate 12, T = 0xfd987193. -/
def execRnd13F (s : State) : Host.Outcome State Fault Refusal := .next (roundMicroStep 13 s)

/-- RND14_F (R76, R86): function F, X[14], rotate 17, T = 0xa679438e. -/
def execRnd14F (s : State) : Host.Outcome State Fault Refusal := .next (roundMicroStep 14 s)

/-- RND15_F (R76, R86): function F, X[15], rotate 22, T = 0x49b40821. -/
def execRnd15F (s : State) : Host.Outcome State Fault Refusal := .next (roundMicroStep 15 s)

/-- RND16_G (R77, R86): function G, X[1], rotate 5, T = 0xf61e2562. -/
def execRnd16G (s : State) : Host.Outcome State Fault Refusal := .next (roundMicroStep 16 s)

/-- RND17_G (R77, R86): function G, X[6], rotate 9, T = 0xc040b340. -/
def execRnd17G (s : State) : Host.Outcome State Fault Refusal := .next (roundMicroStep 17 s)

/-- RND18_G (R77, R86): function G, X[11], rotate 14, T = 0x265e5a51. -/
def execRnd18G (s : State) : Host.Outcome State Fault Refusal := .next (roundMicroStep 18 s)

/-- RND19_G (R77, R86): function G, X[0], rotate 20, T = 0xe9b6c7aa. -/
def execRnd19G (s : State) : Host.Outcome State Fault Refusal := .next (roundMicroStep 19 s)

/-- RND20_G (R77, R86): function G, X[5], rotate 5, T = 0xd62f105d. -/
def execRnd20G (s : State) : Host.Outcome State Fault Refusal := .next (roundMicroStep 20 s)

/-- RND21_G (R77, R86): function G, X[10], rotate 9, T = 0x02441453. -/
def execRnd21G (s : State) : Host.Outcome State Fault Refusal := .next (roundMicroStep 21 s)

/-- RND22_G (R77, R86): function G, X[15], rotate 14, T = 0xd8a1e681. -/
def execRnd22G (s : State) : Host.Outcome State Fault Refusal := .next (roundMicroStep 22 s)

/-- RND23_G (R77, R86): function G, X[4], rotate 20, T = 0xe7d3fbc8. -/
def execRnd23G (s : State) : Host.Outcome State Fault Refusal := .next (roundMicroStep 23 s)

/-- RND24_G (R77, R86): function G, X[9], rotate 5, T = 0x21e1cde6. -/
def execRnd24G (s : State) : Host.Outcome State Fault Refusal := .next (roundMicroStep 24 s)

/-- RND25_G (R77, R86): function G, X[14], rotate 9, T = 0xc33707d6. -/
def execRnd25G (s : State) : Host.Outcome State Fault Refusal := .next (roundMicroStep 25 s)

/-- RND26_G (R77, R86): function G, X[3], rotate 14, T = 0xf4d50d87. -/
def execRnd26G (s : State) : Host.Outcome State Fault Refusal := .next (roundMicroStep 26 s)

/-- RND27_G (R77, R86): function G, X[8], rotate 20, T = 0x455a14ed. -/
def execRnd27G (s : State) : Host.Outcome State Fault Refusal := .next (roundMicroStep 27 s)

/-- RND28_G (R77, R86): function G, X[13], rotate 5, T = 0xa9e3e905. -/
def execRnd28G (s : State) : Host.Outcome State Fault Refusal := .next (roundMicroStep 28 s)

/-- RND29_G (R77, R86): function G, X[2], rotate 9, T = 0xfcefa3f8. -/
def execRnd29G (s : State) : Host.Outcome State Fault Refusal := .next (roundMicroStep 29 s)

/-- RND30_G (R77, R86): function G, X[7], rotate 14, T = 0x676f02d9. -/
def execRnd30G (s : State) : Host.Outcome State Fault Refusal := .next (roundMicroStep 30 s)

/-- RND31_G (R77, R86): function G, X[12], rotate 20, T = 0x8d2a4c8a. -/
def execRnd31G (s : State) : Host.Outcome State Fault Refusal := .next (roundMicroStep 31 s)

/-- RND32_H (R78, R86): function H, X[5], rotate 4, T = 0xfffa3942. -/
def execRnd32H (s : State) : Host.Outcome State Fault Refusal := .next (roundMicroStep 32 s)

/-- RND33_H (R78, R86): function H, X[8], rotate 11, T = 0x8771f681. -/
def execRnd33H (s : State) : Host.Outcome State Fault Refusal := .next (roundMicroStep 33 s)

/-- RND34_H (R78, R86): function H, X[11], rotate 16, T = 0x6d9d6122. -/
def execRnd34H (s : State) : Host.Outcome State Fault Refusal := .next (roundMicroStep 34 s)

/-- RND35_H (R78, R86): function H, X[14], rotate 23, T = 0xfde5380c. -/
def execRnd35H (s : State) : Host.Outcome State Fault Refusal := .next (roundMicroStep 35 s)

/-- RND36_H (R78, R86): function H, X[1], rotate 4, T = 0xa4beea44. -/
def execRnd36H (s : State) : Host.Outcome State Fault Refusal := .next (roundMicroStep 36 s)

/-- RND37_H (R78, R86): function H, X[4], rotate 11, T = 0x4bdecfa9. -/
def execRnd37H (s : State) : Host.Outcome State Fault Refusal := .next (roundMicroStep 37 s)

/-- RND38_H (R78, R86): function H, X[7], rotate 16, T = 0xf6bb4b60. -/
def execRnd38H (s : State) : Host.Outcome State Fault Refusal := .next (roundMicroStep 38 s)

/-- RND39_H (R78, R86): function H, X[10], rotate 23, T = 0xbebfbc70. -/
def execRnd39H (s : State) : Host.Outcome State Fault Refusal := .next (roundMicroStep 39 s)

/-- RND40_H (R78, R86): function H, X[13], rotate 4, T = 0x289b7ec6. -/
def execRnd40H (s : State) : Host.Outcome State Fault Refusal := .next (roundMicroStep 40 s)

/-- RND41_H (R78, R86): function H, X[0], rotate 11, T = 0xeaa127fa. -/
def execRnd41H (s : State) : Host.Outcome State Fault Refusal := .next (roundMicroStep 41 s)

/-- RND42_H (R78, R86): function H, X[3], rotate 16, T = 0xd4ef3085. -/
def execRnd42H (s : State) : Host.Outcome State Fault Refusal := .next (roundMicroStep 42 s)

/-- RND43_H (R78, R86): function H, X[6], rotate 23, T = 0x04881d05. -/
def execRnd43H (s : State) : Host.Outcome State Fault Refusal := .next (roundMicroStep 43 s)

/-- RND44_H (R78, R86): function H, X[9], rotate 4, T = 0xd9d4d039. -/
def execRnd44H (s : State) : Host.Outcome State Fault Refusal := .next (roundMicroStep 44 s)

/-- RND45_H (R78, R86): function H, X[12], rotate 11, T = 0xe6db99e5. -/
def execRnd45H (s : State) : Host.Outcome State Fault Refusal := .next (roundMicroStep 45 s)

/-- RND46_H (R78, R86): function H, X[15], rotate 16, T = 0x1fa27cf8. -/
def execRnd46H (s : State) : Host.Outcome State Fault Refusal := .next (roundMicroStep 46 s)

/-- RND47_H (R78, R86): function H, X[2], rotate 23, T = 0xc4ac5665. -/
def execRnd47H (s : State) : Host.Outcome State Fault Refusal := .next (roundMicroStep 47 s)

/-- RND48_I (R79, R86): function I, X[0], rotate 6, T = 0xf4292244. -/
def execRnd48I (s : State) : Host.Outcome State Fault Refusal := .next (roundMicroStep 48 s)

/-- RND49_I (R79, R86): function I, X[7], rotate 10, T = 0x432aff97. -/
def execRnd49I (s : State) : Host.Outcome State Fault Refusal := .next (roundMicroStep 49 s)

/-- RND50_I (R79, R86): function I, X[14], rotate 15, T = 0xab9423a7. -/
def execRnd50I (s : State) : Host.Outcome State Fault Refusal := .next (roundMicroStep 50 s)

/-- RND51_I (R79, R86): function I, X[5], rotate 21, T = 0xfc93a039. -/
def execRnd51I (s : State) : Host.Outcome State Fault Refusal := .next (roundMicroStep 51 s)

/-- RND52_I (R79, R86): function I, X[12], rotate 6, T = 0x655b59c3. -/
def execRnd52I (s : State) : Host.Outcome State Fault Refusal := .next (roundMicroStep 52 s)

/-- RND53_I (R79, R86): function I, X[3], rotate 10, T = 0x8f0ccc92. -/
def execRnd53I (s : State) : Host.Outcome State Fault Refusal := .next (roundMicroStep 53 s)

/-- RND54_I (R79, R86): function I, X[10], rotate 15, T = 0xffeff47d. -/
def execRnd54I (s : State) : Host.Outcome State Fault Refusal := .next (roundMicroStep 54 s)

/-- RND55_I (R79, R86): function I, X[1], rotate 21, T = 0x85845dd1. -/
def execRnd55I (s : State) : Host.Outcome State Fault Refusal := .next (roundMicroStep 55 s)

/-- RND56_I (R79, R86): function I, X[8], rotate 6, T = 0x6fa87e4f. -/
def execRnd56I (s : State) : Host.Outcome State Fault Refusal := .next (roundMicroStep 56 s)

/-- RND57_I (R79, R86): function I, X[15], rotate 10, T = 0xfe2ce6e0. -/
def execRnd57I (s : State) : Host.Outcome State Fault Refusal := .next (roundMicroStep 57 s)

/-- RND58_I (R79, R86): function I, X[6], rotate 15, T = 0xa3014314. -/
def execRnd58I (s : State) : Host.Outcome State Fault Refusal := .next (roundMicroStep 58 s)

/-- RND59_I (R79, R86): function I, X[13], rotate 21, T = 0x4e0811a1. -/
def execRnd59I (s : State) : Host.Outcome State Fault Refusal := .next (roundMicroStep 59 s)

/-- RND60_I (R79, R86): function I, X[4], rotate 6, T = 0xf7537e82. -/
def execRnd60I (s : State) : Host.Outcome State Fault Refusal := .next (roundMicroStep 60 s)

/-- RND61_I (R79, R86): function I, X[11], rotate 10, T = 0xbd3af235. -/
def execRnd61I (s : State) : Host.Outcome State Fault Refusal := .next (roundMicroStep 61 s)

/-- RND62_I (R79, R86): function I, X[2], rotate 15, T = 0x2ad7d2bb. -/
def execRnd62I (s : State) : Host.Outcome State Fault Refusal := .next (roundMicroStep 62 s)

/-- RND63_I (R79, R86): function I, X[9], rotate 21, T = 0xeb86d391. -/
def execRnd63I (s : State) : Host.Outcome State Fault Refusal := .next (roundMicroStep 63 s)

end Sys2Proof.Machine
end

