-- ==== Sys2Proof/Machine/Dispatch.lean ====
section
/-! DEFINITION. The meaning of each instruction, one arm per row of spec/opcode_table.json. Which instruction
runs next is step's part: the handshake selects a command (43_digest_engine.md R104), the round counter
selects a round (R113; log entry 14). -/

namespace Sys2Proof.Machine

/-- Execute one instruction: a command that has been accepted (R105 to R109), or a round micro-operation (R113). -/
def exec (i : Instr) (s : State) : Host.Outcome State Fault Refusal :=
  match i with
  | .nop => Sys2Proof.Machine.execNop s
  | .init => Sys2Proof.Machine.execInit s
  | .absorb => Sys2Proof.Machine.execAbsorb s
  | .final k => Sys2Proof.Machine.execFinal k s
  | .rnd00F => Sys2Proof.Machine.execRnd00F s
  | .rnd01F => Sys2Proof.Machine.execRnd01F s
  | .rnd02F => Sys2Proof.Machine.execRnd02F s
  | .rnd03F => Sys2Proof.Machine.execRnd03F s
  | .rnd04F => Sys2Proof.Machine.execRnd04F s
  | .rnd05F => Sys2Proof.Machine.execRnd05F s
  | .rnd06F => Sys2Proof.Machine.execRnd06F s
  | .rnd07F => Sys2Proof.Machine.execRnd07F s
  | .rnd08F => Sys2Proof.Machine.execRnd08F s
  | .rnd09F => Sys2Proof.Machine.execRnd09F s
  | .rnd10F => Sys2Proof.Machine.execRnd10F s
  | .rnd11F => Sys2Proof.Machine.execRnd11F s
  | .rnd12F => Sys2Proof.Machine.execRnd12F s
  | .rnd13F => Sys2Proof.Machine.execRnd13F s
  | .rnd14F => Sys2Proof.Machine.execRnd14F s
  | .rnd15F => Sys2Proof.Machine.execRnd15F s
  | .rnd16G => Sys2Proof.Machine.execRnd16G s
  | .rnd17G => Sys2Proof.Machine.execRnd17G s
  | .rnd18G => Sys2Proof.Machine.execRnd18G s
  | .rnd19G => Sys2Proof.Machine.execRnd19G s
  | .rnd20G => Sys2Proof.Machine.execRnd20G s
  | .rnd21G => Sys2Proof.Machine.execRnd21G s
  | .rnd22G => Sys2Proof.Machine.execRnd22G s
  | .rnd23G => Sys2Proof.Machine.execRnd23G s
  | .rnd24G => Sys2Proof.Machine.execRnd24G s
  | .rnd25G => Sys2Proof.Machine.execRnd25G s
  | .rnd26G => Sys2Proof.Machine.execRnd26G s
  | .rnd27G => Sys2Proof.Machine.execRnd27G s
  | .rnd28G => Sys2Proof.Machine.execRnd28G s
  | .rnd29G => Sys2Proof.Machine.execRnd29G s
  | .rnd30G => Sys2Proof.Machine.execRnd30G s
  | .rnd31G => Sys2Proof.Machine.execRnd31G s
  | .rnd32H => Sys2Proof.Machine.execRnd32H s
  | .rnd33H => Sys2Proof.Machine.execRnd33H s
  | .rnd34H => Sys2Proof.Machine.execRnd34H s
  | .rnd35H => Sys2Proof.Machine.execRnd35H s
  | .rnd36H => Sys2Proof.Machine.execRnd36H s
  | .rnd37H => Sys2Proof.Machine.execRnd37H s
  | .rnd38H => Sys2Proof.Machine.execRnd38H s
  | .rnd39H => Sys2Proof.Machine.execRnd39H s
  | .rnd40H => Sys2Proof.Machine.execRnd40H s
  | .rnd41H => Sys2Proof.Machine.execRnd41H s
  | .rnd42H => Sys2Proof.Machine.execRnd42H s
  | .rnd43H => Sys2Proof.Machine.execRnd43H s
  | .rnd44H => Sys2Proof.Machine.execRnd44H s
  | .rnd45H => Sys2Proof.Machine.execRnd45H s
  | .rnd46H => Sys2Proof.Machine.execRnd46H s
  | .rnd47H => Sys2Proof.Machine.execRnd47H s
  | .rnd48I => Sys2Proof.Machine.execRnd48I s
  | .rnd49I => Sys2Proof.Machine.execRnd49I s
  | .rnd50I => Sys2Proof.Machine.execRnd50I s
  | .rnd51I => Sys2Proof.Machine.execRnd51I s
  | .rnd52I => Sys2Proof.Machine.execRnd52I s
  | .rnd53I => Sys2Proof.Machine.execRnd53I s
  | .rnd54I => Sys2Proof.Machine.execRnd54I s
  | .rnd55I => Sys2Proof.Machine.execRnd55I s
  | .rnd56I => Sys2Proof.Machine.execRnd56I s
  | .rnd57I => Sys2Proof.Machine.execRnd57I s
  | .rnd58I => Sys2Proof.Machine.execRnd58I s
  | .rnd59I => Sys2Proof.Machine.execRnd59I s
  | .rnd60I => Sys2Proof.Machine.execRnd60I s
  | .rnd61I => Sys2Proof.Machine.execRnd61I s
  | .rnd62I => Sys2Proof.Machine.execRnd62I s
  | .rnd63I => Sys2Proof.Machine.execRnd63I s

end Sys2Proof.Machine
end

