-- ==== Sys2Proof/Machine/Sequencer.lean ====
section
/-! DEFINITION. What the sequencer does in one step: the handshake and the dispatch of a command while idle
(43_digest_engine.md R104, R105), the micro-steps while running (R113, R114). -/

namespace Sys2Proof.Machine

/-- Dispatch of an accepted command word (43_digest_engine.md R105): a legal word runs its command, an illegal one
raises its error (with no effect while ERR = 1). -/
def dispatch (cmd : BitVec 16) (s : State) : Host.Outcome State Fault Refusal :=
  match decodeCmd cmd with
  | .legal c => exec c.toInstr s
  | .illegal e => .next (raiseCmdError e s)

/-- The round index r[5:0] that RC supplies (30_encoding.md R62). -/
def State.roundIndex (s : State) : BitVec 6 := s.rc.extractLsb' 0 6

/-- One micro-step with PH = RUN: round RC when RC ≤ 63 (R113), the add-back when RC = 64 (R114); any other RC is a
value R20 rules out (log entry 9). -/
def microStep (s : State) : Host.Outcome State Fault Refusal :=
  if s.rc.toNat ≤ 63 then exec (decodeRound s.roundIndex) s
  else if s.rc.toNat = 64 then .next (addBack s)
  else .fault .rcOutOfRange

/-- The event of a step: a reset (70_reset_and_hazards.md R143; it wins over an offer, R144 and log entry 4), else a
micro-step while BUSY, else the command that is accepted (43_digest_engine.md R104), else nothing (R102 HOLD). -/
def event (s : State) : Host.Outcome State Fault Refusal :=
  if s.pins.reset then .next (resetEvent s)
  else if s.busy then microStep s
  else if s.accepts then dispatch s.pins.cmd s
  else .next s

/-- The event's next state, with the host's next pins. -/
def thenTick : Host.Outcome State Fault Refusal → Host.Outcome State Fault Refusal
  | .next s => .next s.tick
  | .fault r => .fault r
  | .refused r => .refused r

/-- Make the host offer a command word now, on the DIN it drives now. -/
def offerWord (w : BitVec 16) (s : State) : State :=
  { s with ph := .idle, inputs := { s.pins with reset := false, cmdValid := true, cmd := w } :: s.inputs.tail }

/-- Make round r the one that runs next. -/
def selectRound (r : Nat) (s : State) : State :=
  { s with ph := .run, rc := BitVec.ofNat 7 r, inputs := { s.pins with reset := false } :: s.inputs.tail }

end Sys2Proof.Machine
end

