-- ==== Sys2Proof/Machine/Step.lean ====
section
/-! DEFINITION. One step of the machine, and where a code stands so that the next step runs it. -/

namespace Sys2Proof.Machine

/-- One step: its event (`event`), then the host's next pins. A step is an event, not a unit of time (log entry 2). -/
def step (s : State) : Host.Outcome State Fault Refusal := thenTick (event s)

/-- The state whose next step runs the instruction whose table bits are `w`: a command word (more than one byte) is
offered by the host to an idle block, a round index (one byte) stands in RC of a running one (log entry 13). -/
def State.withFetchWord (s : State) (nbits w : Nat) : State :=
  if nbits ≤ 8 then selectRound w s else offerWord (BitVec.ofNat 16 w) s

end Sys2Proof.Machine
end

