-- ==== Sys2Proof/Machine/Outputs.lean ====
section
/-! DEFINITION. The sub-block `hex_encoder`, the digest's byte view and the ports DIGEST and HEX (44_hex_encoder.md;
10_state.md R30, R31). A read of a port is a function of the state: no side effect (20_memory.md R45; log entry 15). -/

namespace Sys2Proof.Machine

/-- The digest bytes Dg[0..15]: the words in order A, B, C, D, each little-endian (R121). -/
def digestBytes (q : Quad) : List Byte := le32 q.a ++ le32 q.b ++ le32 q.c ++ le32 q.d

/-- `hexchar(v)`: the lowercase ASCII character of a nibble (R123). -/
def hexchar (v : BitVec 4) : Byte :=
  if v.toNat ≤ 9 then BitVec.ofNat 8 (0x30 + v.toNat) else BitVec.ofNat 8 (0x61 + (v.toNat - 10))

/-- A byte's two characters, "high-nibble-then-low-nibble" (R124). -/
def hexOfByte (b : Byte) : List Byte := [hexchar (b.extractLsb' 4 4), hexchar (b.extractLsb' 0 4)]

/-- `hexEncode(DS)`: ch[0..31] (R124). -/
def hexEncode (q : Quad) : List Byte := (digestBytes q).flatMap hexOfByte

/-- The DIGEST layout: DIGEST[8i+7:8i] = Dg[i] (R122). -/
def digestView (q : Quad) : BitVec 128 := BitVec.ofNat 128 (lanesToNat (digestBytes q))

/-- The HEX layout: HEX[8c+7:8c] = ch[c] (R125). -/
def hexView (q : Quad) : BitVec 256 := BitVec.ofNat 256 (lanesToNat (hexEncode q))

/-- The words HEX is shown from while BUSY = 1: free (93_implementation_defined.md I7; log entry 7). -/
def freeHexQuad (draw : Nat) : Quad :=
  ⟨Config.freeHexWord draw 0, Config.freeHexWord draw 1, Config.freeHexWord draw 2, Config.freeHexWord draw 3⟩

/-- DIGEST[127:0] (10_state.md R30): the view of DS; while BUSY = 1 a free value (20_memory.md R54; log entry 7). -/
def State.digestPort (s : State) : BitVec 128 := if s.busy then Config.freeDigest s.draw else digestView s.ds

/-- HEX[255:0] (10_state.md R31): the characters of DS; while BUSY = 1 those of a free value (20_memory.md R54; log entry 7). -/
def State.hexPort (s : State) : BitVec 256 := hexView (if s.busy then freeHexQuad s.draw else s.ds)

/-- The outputs are a digest only when FSM = DONE, BUSY = 0 and ERR = 0: STATUS[3:0] = 0b0011 (70_reset_and_hazards.md R151). -/
def State.resultReady (s : State) : Bool := s.status.extractLsb' 0 4 == 0b0011

end Sys2Proof.Machine
end

