-- ==== Sys2Proof/Machine/Transaction.lean ====
section
/-! DEFINITION. The transaction level (00_scope.md R10): each accepted command as one atomic step on the registers that
are specified between commands (43_digest_engine.md R105 to R109). `step` refines it (R115). -/

namespace Sys2Proof.Machine

/-- The registers whose values are specified at a command boundary (43_digest_engine.md R115). -/
structure Arch where
  ds : Quad
  fsm : Fsm
  len : Word
  err : Bool
  errCause : BitVec 3
deriving DecidableEq, Repr

/-- The command-boundary view of a state. -/
def State.arch (s : State) : Arch := ⟨s.ds, s.fsm, s.len, s.err, s.errCause⟩

/-- `raise CmdError(e)` (60_exceptions.md R130). -/
def Arch.raise (e : CmdError) (m : Arch) : Arch := if m.err then m else { m with err := true, errCause := e.code }

/-- The state after INIT, and after reset (43_digest_engine.md R107; 70_reset_and_hazards.md R143). -/
def Arch.initial : Arch := ⟨iv, .init, 0, false, 0⟩

/-- ABSORB (43_digest_engine.md R108). -/
def Arch.absorb (din : BitVec 512) (m : Arch) : Arch :=
  { m with
    ds := compress m.ds (decodeBlock (dinBlock din))
    len := BitVec.ofNat 32 ((m.len.toNat + 512) % 2 ^ 32)
    fsm := .processing }

/-- FINAL(k): the tail blocks in order, padded with LEN after its update (43_digest_engine.md R109). -/
def Arch.final (k : BitVec 6) (din : BitVec 512) (m : Arch) : Arch :=
  let l := BitVec.ofNat 32 ((m.len.toNat + 8 * k.toNat) % 2 ^ 32)
  { m with ds := compressBlocks m.ds (tails (dinLanes din k.toNat) l), len := l, fsm := .done }

/-- One accepted legal command, whole (43_digest_engine.md R105 to R109). -/
def transactCommand (c : Command) (din : BitVec 512) (m : Arch) : Arch :=
  match c with
  | .nop => m
  | .init => .initial
  | .absorb => if m.err then m else if m.fsm = .done then m.raise .absorbAfterDone else m.absorb din
  | .final k => if m.err then m else if m.fsm = .done then m.raise .finalAfterDone else m.final k din

/-- One accepted command word, whole (43_digest_engine.md R105). -/
def transact (cmd : BitVec 16) (din : BitVec 512) (m : Arch) : Arch :=
  match decodeCmd cmd with
  | .legal c => transactCommand c din m
  | .illegal e => m.raise e

/-- What a host offers: a command word and the DIN that goes with it. -/
structure Offer where
  cmd : BitVec 16
  din : BitVec 512
deriving DecidableEq, Repr

/-- A sequence of commands, each completed before the next (20_memory.md R47). -/
def transactAll (os : List Offer) (m : Arch) : Arch := os.foldl (fun m o => transact o.cmd o.din m) m

/-- The micro-steps that the reference datapath takes after the acceptance of a command word: 65 per block it compresses
(43_digest_engine.md R115). They are events, not time (log entry 2). -/
def microSteps (cmd : BitVec 16) (m : Arch) : Nat :=
  if m.err ∨ m.fsm = .done then 0
  else match decodeCmd cmd with
    | .legal .absorb => 65
    | .legal (.final k) => if k.toNat ≤ 55 then 65 else 130
    | .legal .nop => 0
    | .legal .init => 0
    | .illegal _ => 0

/-- The time from the acceptance of a command until BUSY = 0 again: an open parameter for ABSORB and FINAL, and 0 for INIT
and NOP, which complete in their acceptance step (00_scope.md R8; log entry 2). -/
def latency : Command → Nat
  | .nop => 0
  | .init => 0
  | .absorb => Config.latAbsorb
  | .final k => if k.toNat ≤ 55 then Config.latFinal1 else Config.latFinal2

end Sys2Proof.Machine
end

