-- ==== Sys2Proof/Machine/HostRun.lean ====
section
/-! DEFINITION. The other side of the ports: the lines of a command program (30_encoding.md R65), the canonical sequence
for a message (R66; 43_digest_engine.md R116), and a host that waits for cmd_ready before each command. None of it is
part of the machine. -/

namespace Sys2Proof.Machine

/-- A line of a command program (30_encoding.md R65), its bytes already read from digits or characters. -/
inductive HostLine where
  | nop
  | init
  | absorb (block : List Byte)
  | final (rem : List Byte)
  | word (w : BitVec 16)
  | readStatus
  | readDigest
  | readHex
deriving DecidableEq, Repr

/-- DIN with the bytes in its lanes, lane 0 first, the other lanes 0x00 (30_encoding.md R65). -/
def packDin (bytes : List Byte) : BitVec 512 := BitVec.ofNat 512 (lanesToNat bytes)

/-- The word and the DIN of a line; the reads are not commands and have none (30_encoding.md R65). -/
def HostLine.offer : HostLine → Option Offer
  | .nop => some ⟨0x0000, 0⟩
  | .init => some ⟨0x0001, 0⟩
  | .absorb block => some ⟨0x0002, packDin block⟩
  | .final rem => some ⟨cmdWord (BitVec.ofNat 6 rem.length) 3, packDin rem⟩
  | .word w => some ⟨w, 0⟩
  | .readStatus => none
  | .readDigest => none
  | .readHex => none

/-- The number a read line samples from its port (20_memory.md R45); a command line samples nothing. -/
def HostLine.sample (s : State) : HostLine → Option Nat
  | .readStatus => some s.status.toNat
  | .readDigest => some s.digestPort.toNat
  | .readHex => some s.hexPort.toNat
  | .nop => none
  | .init => none
  | .absorb _ => none
  | .final _ => none
  | .word _ => none

/-- `DIGEST m`, the pseudo-command's expansion (30_encoding.md R66). -/
def digestProgram (m : List Byte) : List HostLine :=
  [.init] ++ (fullBlocks m).map .absorb ++ [.final (remainder m), .readHex]

/-- The commands of the canonical sequence for the message m (43_digest_engine.md R116). -/
def canonical (m : List Byte) : List Offer := (digestProgram m).filterMap HostLine.offer

/-- Step until BUSY = 0, at most n steps. -/
def waitReady : Nat → State → Host.Outcome State Fault Refusal
  | 0, s => .next s
  | n + 1, s =>
    if s.busy then
      match step s with
      | .next t => waitReady n t
      | .fault r => .fault r
      | .refused r => .refused r
    else .next s

/-- The host offers one command for one step to an idle block and then waits for cmd_ready (30_encoding.md R66). No
command keeps the reference datapath busy for more than 130 steps (43_digest_engine.md R115). -/
def hostCommand (o : Offer) (s : State) : Host.Outcome State Fault Refusal :=
  match step { s with inputs := [⟨false, true, o.cmd, o.din⟩] } with
  | .next t => waitReady 130 t
  | .fault r => .fault r
  | .refused r => .refused r

/-- The host runs a sequence of commands. -/
def hostRun : List Offer → State → Host.Outcome State Fault Refusal
  | [], s => .next s
  | o :: os, s =>
    match hostCommand o s with
    | .next t => hostRun os t
    | .fault r => .fault r
    | .refused r => .refused r

end Sys2Proof.Machine
end

