-- ==== Sys2Proof/Machine/Assembler.lean ====
section
/-! DEFINITION. The text of a command program (30_encoding.md R65, R66): one command a line, comments after `;`. What
the rules do not say of the text (blanks, the case of a digit, a FINAL or a DIGEST of no bytes, a FINAL with both k and a string) is in log entry 15. It is no part of
the machine. -/

namespace Sys2Proof.Machine

/-- A blank between the parts of a line. -/
def isBlank (c : Char) : Bool := c == ' ' || c == '\t'

/-- A line without its comment; a `;` between double quotes starts none. The flag says that a quote is open. -/
def dropComment : Bool → List Char → List Char
  | _, [] => []
  | inQuotes, c :: cs =>
    if c = '"' then c :: dropComment (!inQuotes) cs
    else if c = ';' ∧ inQuotes = false then []
    else c :: dropComment inQuotes cs

/-- A line without the blanks at its two ends. -/
def trim (cs : List Char) : List Char := ((cs.dropWhile isBlank).reverse.dropWhile isBlank).reverse

/-- What follows a keyword and at least one blank. -/
def argOf (keyword : String) (cs : List Char) : Option (List Char) :=
  if keyword.toList.isPrefixOf cs then
    match cs.drop keyword.toList.length with
    | [] => none
    | c :: rest => if isBlank c then some (trim rest) else none
  else none

/-- The value of a hexadecimal digit. -/
def hexDigit (c : Char) : Option Nat :=
  if 0x30 ≤ c.toNat ∧ c.toNat ≤ 0x39 then some (c.toNat - 0x30)
  else if 0x61 ≤ c.toNat ∧ c.toNat ≤ 0x66 then some (c.toNat - 0x61 + 10)
  else if 0x41 ≤ c.toNat ∧ c.toNat ≤ 0x46 then some (c.toNat - 0x41 + 10)
  else none

/-- Hexadecimal digits as bytes, "two hex digits per byte", the high digit first (R65). -/
def hexBytes : List Char → Option (List Byte)
  | [] => some []
  | [_] => none
  | p :: q :: rest =>
    match hexDigit p, hexDigit q, hexBytes rest with
    | some h, some l, some bytes => some (BitVec.ofNat 8 (16 * h + l) :: bytes)
    | _, _, _ => none

/-- The ASCII characters up to the closing quote, which ends the line. -/
def quotedTail : List Char → Option (List Byte)
  | [] => none
  | ['"'] => some []
  | c :: cs => if c = '"' ∨ 128 ≤ c.toNat then none else (quotedTail cs).map (BitVec.ofNat 8 c.toNat :: ·)

/-- A string between double quotes, as its bytes (R65). -/
def quoted : List Char → Option (List Byte)
  | [] => none
  | c :: cs => if c = '"' then quotedTail cs else none

/-- Bytes as hexadecimal digits, blanks among them left out. -/
def hexArg (cs : List Char) : Option (List Byte) := hexBytes (cs.filter (!isBlank ·))

/-- Bytes written as a string or as hexadecimal digits. -/
def bytesOf (cs : List Char) : Option (List Byte) := (quoted cs).or (hexArg cs)

/-- A decimal number. -/
def decimal (cs : List Char) : Option Nat :=
  if cs = [] then none
  else cs.foldl (fun n c => n.bind fun n =>
    if 0x30 ≤ c.toNat ∧ c.toNat ≤ 0x39 then some (10 * n + (c.toNat - 0x30)) else none) (some 0)

/-- The argument of FINAL, k = 0..63: a string of k characters, or k and 2k hexadecimal digits (R65), or k and a string of
k characters (92_eei_decisions.md D27; that both string forms are read is DESIGN CHOICE, log entry 15). -/
def finalArg (cs : List Char) : Option (List Byte) :=
  match quoted cs with
  | some rem => if rem.length ≤ 63 then some rem else none
  | none =>
    match decimal (trim (cs.takeWhile (· ≠ ','))), bytesOf (trim ((cs.dropWhile (· ≠ ',')).drop 1)) with
    | some k, some rem => if rem.length = k ∧ k ≤ 63 then some rem else none
    | _, _ => none

/-- The argument of `.word`: 0x and four hexadecimal digits (R65; no other count of digits, log entry 15). -/
def wordArg : List Char → Option (BitVec 16)
  | '0' :: 'x' :: digits =>
    match hexBytes digits with
    | some [h, l] => some (h ++ l)
    | _ => none
  | _ => none

/-- The lines without an argument. DIGEST alone is DIGEST of no hexadecimal bytes, the empty message: R66 is silent on it,
DESIGN CHOICE, log entry 15. -/
def plainLine (cs : List Char) : Option (List HostLine) :=
  if cs = [] then some []
  else if cs = "NOP".toList then some [.nop]
  else if cs = "INIT".toList then some [.init]
  else if cs = "DIGEST".toList then some (digestProgram [])
  else if cs = "READ STATUS".toList then some [.readStatus]
  else if cs = "READ DIGEST".toList then some [.readDigest]
  else if cs = "READ HEX".toList then some [.readHex]
  else none

/-- The lines that have an argument. `DIGEST ""` is the empty message too (R66). -/
def argLine (cs : List Char) : Option (List HostLine) :=
  match argOf "ABSORB" cs, argOf "FINAL" cs, argOf ".word" cs, argOf "DIGEST" cs with
  | some arg, _, _, _ => (bytesOf arg).bind fun y => if y.length = 64 then some [.absorb y] else none
  | none, some arg, _, _ => (finalArg arg).map fun rem => [.final rem]
  | none, none, some arg, _ => (wordArg arg).map fun w => [.word w]
  | none, none, none, some arg => (bytesOf arg).map digestProgram
  | none, none, none, none => none

/-- One line of a command program: no line, one command or read, or the expansion of DIGEST; `none` for a line that R65
and R66 do not give. -/
def parseLine (line : String) : Option (List HostLine) :=
  let cs := trim (dropComment false line.toList)
  (plainLine cs).or (argLine cs)

/-- A whole program. -/
def parseProgram (lines : List String) : Option (List HostLine) :=
  lines.foldr (fun l acc => (parseLine l).bind fun x => acc.map (x ++ ·)) (some [])

/-- Run a program on a waiting host: each command as `hostCommand` does it, each read as a sample of its port
(20_memory.md R45). The samples come in program order. -/
def runProgram : List HostLine → State → List Nat × Host.Outcome State Fault Refusal
  | [], s => ([], .next s)
  | line :: rest, s =>
    match line.offer with
    | some o =>
      match hostCommand o s with
      | .next t => runProgram rest t
      | .fault r => ([], .fault r)
      | .refused r => ([], .refused r)
    | none =>
      let (samples, out) := runProgram rest s
      ((line.sample s).toList ++ samples, out)

end Sys2Proof.Machine
end

