-- ==== Sys2Proof/Safety.lean ====
section
/-! DEFINITION. What counts as a safe state, and when two states are alike for everything a host can ever see. -/

namespace Sys2Proof.Machine

/-- ERRCAUSE is 0 exactly while ERR = 0 (10_state.md R25), and 5, 6, 7 are never produced (60_exceptions.md R128). -/
abbrev State.CauseWf (s : State) : Prop := (s.err = true ↔ s.errCause ≠ 0) ∧ s.errCause.toNat ≤ 4

/-- While a compression runs: RC is 0..64 (10_state.md R20), no error is recorded (60_exceptions.md R131, R134), a second
tail block waits only under FINAL (43_digest_engine.md R111, R112), and FSM is the one the command in progress set. -/
abbrev State.RunWf (s : State) : Prop :=
  s.ph = .run → s.rc.toNat ≤ 64 ∧ s.err = false ∧ (s.tail2 = true → s.fin = true) ∧
    s.fsm = if s.fin then .finalizing else .processing

/-- FINALIZING is "never seen at a command boundary" (10_state.md R22). -/
abbrev State.IdleWf (s : State) : Prop := s.ph = .idle → s.fsm ≠ .finalizing

/-- The FSM state INIT is the source's Init: DS is the IV, and nothing has been delivered (70_reset_and_hazards.md R146). -/
abbrev State.InitWf (s : State) : Prop := s.fsm = .init → s.ds = iv ∧ s.len = 0

/-- LEN counts whole bytes, and whole blocks while the message is being absorbed (10_state.md R23). -/
abbrev State.LenWf (s : State) : Prop := s.len.toNat % 8 = 0 ∧ (s.fsm = .processing → s.len.toNat % 512 = 0)

/-- The invariant of the machine. -/
abbrev State.Inv (s : State) : Prop := s.CauseWf ∧ s.RunWf ∧ s.IdleWf ∧ s.InitWf ∧ s.LenWf

/-- Two states are alike when they agree on everything but the registers that are unspecified between commands, and on
those too while a compression runs (10_state.md R36). -/
abbrev State.Alike (s t : State) : Prop :=
  s.arch = t.arch ∧ s.ph = t.ph ∧ s.inputs = t.inputs ∧ s.draw = t.draw ∧
    (s.ph = .run → s.wv = t.wv ∧ s.x = t.x ∧ s.rc = t.rc ∧ s.fin = t.fin ∧ s.tail2 = t.tail2)

end Sys2Proof.Machine
end

