-- ==== Sys2Proof/Certificates/Slice0/Obligations.lean ====
section
/-! DEFINITION. The statements for the provers. Each says which rule of spec/ it formalises; where a clause is the
model's own choice, its docstring names the log entry. -/

open Sys2Proof Sys2Proof.Machine

/-- Command words and round indexes written out bit by bit decode to their instructions or errors (30_encoding.md R55,
30_encoding.md R59, 30_encoding.md R62, 95_test_vectors.md V13). -/
def Obligations.SampleWordsDecode : Prop :=
  decode (.cmd16 0b0000000_000000_000) = .ok .nop ∧
  decode (.cmd16 0b0000000_000000_001) = .ok .init ∧
  decode (.cmd16 0b0000000_000000_010) = .ok .absorb ∧
  decode (.cmd16 0b0000000_000000_011) = .ok (.final 0) ∧
  decode (.cmd16 0b0000000_000011_011) = .ok (.final 3) ∧
  decode (.cmd16 0b0000000_111111_011) = .ok (.final 63) ∧
  decode (.cmd16 0b0000000_000000_100) = .error .rsvdOp ∧
  decode (.cmd16 0b1111111_111111_111) = .error .rsvdOp ∧
  decode (.cmd16 0b0000000_000001_000) = .error .rsvdField ∧
  decode (.cmd16 0b0000001_000000_011) = .error .rsvdField ∧
  decode (.round6 0b00_0000) = .ok .rnd00F ∧
  decode (.round6 0b01_0110) = .ok .rnd22G ∧
  decode (.round6 0b10_1001) = .ok .rnd41H ∧
  decode (.round6 0b11_1111) = .ok .rnd63I

/-- Every command word decodes as the check order on OP, RSV and K says (R59). -/
def Obligations.CommandDecodeFollowsItsFields : Prop :=
  ∀ w : BitVec 16,
    let op := w.toNat % 8
    let k := w.toNat / 8 % 64
    let rsv := w.toNat / 512
    (4 ≤ op → decodeCmd w = .illegal .rsvdOp) ∧
    (op < 4 → rsv ≠ 0 → decodeCmd w = .illegal .rsvdField) ∧
    (op < 3 → rsv = 0 → k ≠ 0 → decodeCmd w = .illegal .rsvdField) ∧
    (op = 0 → rsv = 0 → k = 0 → decodeCmd w = .legal .nop) ∧
    (op = 1 → rsv = 0 → k = 0 → decodeCmd w = .legal .init) ∧
    (op = 2 → rsv = 0 → k = 0 → decodeCmd w = .legal .absorb) ∧
    (op = 3 → rsv = 0 → decodeCmd w = .legal (.final (BitVec.ofNat 6 k))) ∧
    ((∃ c, decodeCmd w = .legal c) ↔
      w = 0x0000 ∨ w = 0x0001 ∨ w = 0x0002 ∨ ∃ k : BitVec 6, w = (0x0003 : BitVec 16) ||| (k.zeroExtend 16 <<< 3))

/-- Decoding an encoded instruction gives it back, and a code that decodes is the encoding of what it decodes to
(30_encoding.md R59, 30_encoding.md R62, opcode_table.json). -/
def Obligations.DecodeAndEncodeAgree : Prop :=
  (∀ i : Instr, decode (encode i) = .ok i) ∧
  ∀ (c : Code) (i : Instr), decode c = .ok i → encode i = c

/-- A code decodes to an instruction exactly when it matches a row of the opcode table under its mask
(opcode_table.json, 30_encoding.md R59, 30_encoding.md R60). -/
def Obligations.LegalCodesAreTheTableRows : Prop :=
  (∀ c : Code, (∃ i, decode c = .ok i) ↔ c.wf = true) ∧
  ∀ w : BitVec 16, [nopRow, initRow, absorbRow, finalRow].countP (·.accepts w) ≤ 1

/-- add32 is the exact sum modulo 2^32, with the laws of a commutative group (R68, R69). -/
def Obligations.AddIsTheSumModulo2To32 : Prop :=
  (∀ a b : Word, (add32 a b).toNat = (a.toNat + b.toNat) % 2 ^ 32) ∧
  (∀ a b : Word, add32 a b = add32 b a) ∧
  (∀ a b c : Word, add32 (add32 a b) c = add32 a (add32 b c)) ∧
  (∀ a : Word, add32 a 0 = a) ∧
  (∀ a : Word, add32 a (BitVec.ofNat 32 ((2 ^ 32 - a.toNat) % 2 ^ 32)) = 0) ∧
  (∀ a q x t : Word, (add32 (add32 a q) (add32 x t)).toNat = (a.toNat + q.toNat + x.toNat + t.toNat) % 2 ^ 32)

/-- rotateLeft32 is its shift formula, and bit i of the result is bit (i - s) mod 32 of v (R70, R71). -/
def Obligations.RotateMovesEveryBit : Prop :=
  ∀ (v : Word) (s : BitVec 5),
    (rotl v s).toNat = ((v.toNat <<< s.toNat) ||| (v.toNat >>> (32 - s.toNat))) % 2 ^ 32 ∧
    (∀ i < 32, (rotl v s).getLsbD i = v.getLsbD ((i + 32 - s.toNat) % 32)) ∧
    rotl v 0 = v

/-- NOT is 2^32 - 1 - v, and AND, OR, XOR act bit by bit (R72, R73). -/
def Obligations.LogicIsBitwise : Prop :=
  (∀ v : Word, (not32 v).toNat = 2 ^ 32 - 1 - v.toNat) ∧
  ∀ (a b : Word) (i : Nat), i < 32 →
    (and32 a b).getLsbD i = (a.getLsbD i && b.getLsbD i) ∧
    (or32 a b).getLsbD i = (a.getLsbD i || b.getLsbD i) ∧
    (xor32 a b).getLsbD i = (a.getLsbD i ^^ b.getLsbD i)

/-- cmn rotates the four-operand sum and then adds b (R75). -/
def Obligations.CmnRotatesTheSumThenAddsB : Prop :=
  ∀ (q a b x : Word) (s : BitVec 5) (t : Word),
    cmn q a b x s t = add32 b (rotl (BitVec.ofNat 32 (a.toNat + q.toNat + x.toNat + t.toNat)) s) ∧
    cmn 0 a b 0 0 0 = add32 a b ∧
    cmn 0xffffffff 1 5 0 4 0 = 5 ∧ cmn 1 2 3 4 1 5 = 0x1b

/-- F is cmn of its mixing function, which acts bit by bit, and r[5:4] = 0 selects it (R76). -/
def Obligations.RoundFMixesAsItsRuleSays : Prop :=
  (∀ (a b c d x : Word) (s : BitVec 5) (t : Word),
    fF b c d = (b &&& c) ||| (~~~b &&& d) ∧ roundF a b c d x s t = cmn (fF b c d) a b x s t) ∧
  (∀ (b c d : Word) (n : Nat), n < 32 → (fF b c d).getLsbD n = if b.getLsbD n then c.getLsbD n else d.getLsbD n) ∧
  (∀ b c d : Word, fF 0xffffffff c d = c ∧ fF 0 c d = d ∧ fF b c c = c) ∧
  roundF 0x67452301 0xefcdab89 0x98badcfe 0x10325476 0x80636261 7 0xd76aa478 = 0xd6d117b4 ∧
  fF 0xefcdab89 0x98badcfe 0x10325476 = 0x98badcfe ∧
  ∀ r : BitVec 6, (rom r).g = .f ↔ r.extractLsb' 4 2 = 0

/-- G is cmn of its mixing function, which acts bit by bit, and r[5:4] = 1 selects it (R77). -/
def Obligations.RoundGMixesAsItsRuleSays : Prop :=
  (∀ (a b c d x : Word) (s : BitVec 5) (t : Word),
    fG b c d = (b &&& d) ||| (c &&& ~~~d) ∧ roundG a b c d x s t = cmn (fG b c d) a b x s t) ∧
  (∀ (b c d : Word) (n : Nat), n < 32 → (fG b c d).getLsbD n = if d.getLsbD n then b.getLsbD n else c.getLsbD n) ∧
  (∀ b c : Word, fG b c 0xffffffff = b ∧ fG b c 0 = c) ∧
  roundG 0xdda9b9a6 0x72aff2e0 0xe396856b 0xa1051895 0x00000000 5 0xf61e2562 = 0x3e9e9126 ∧
  ∀ r : BitVec 6, (rom r).g = .g ↔ r.extractLsb' 4 2 = 1

/-- H is cmn of its mixing function, which acts bit by bit, and r[5:4] = 2 selects it (R78). -/
def Obligations.RoundHMixesAsItsRuleSays : Prop :=
  (∀ (a b c d x : Word) (s : BitVec 5) (t : Word),
    fH b c d = b ^^^ c ^^^ d ∧ roundH a b c d x s t = cmn (fH b c d) a b x s t) ∧
  (∀ (b c d : Word) (n : Nat), n < 32 → (fH b c d).getLsbD n = (b.getLsbD n ^^ c.getLsbD n ^^ d.getLsbD n)) ∧
  ((∀ v d : Word, fH v v d = d) ∧ fH 0 0 0 = 0 ∧ fH 0xffffffff 0xffffffff 0xffffffff = 0xffffffff) ∧
  roundH 0x790a77fb 0x726342d3 0xa62884aa 0x9f47e4f8 0x00000000 4 0xfffa3942 = 0xb3707ebf ∧
  ∀ r : BitVec 6, (rom r).g = .h ↔ r.extractLsb' 4 2 = 2

/-- I is cmn of its mixing function, which acts bit by bit, and r[5:4] = 3 selects it (R79). -/
def Obligations.RoundIMixesAsItsRuleSays : Prop :=
  (∀ (a b c d x : Word) (s : BitVec 5) (t : Word),
    fI b c d = c ^^^ (b ||| ~~~d) ∧ roundI a b c d x s t = cmn (fI b c d) a b x s t) ∧
  (∀ (b c d : Word) (n : Nat), n < 32 → (fI b c d).getLsbD n = (c.getLsbD n ^^ (b.getLsbD n || !d.getLsbD n))) ∧
  (fI 0 0 0 = 0xffffffff ∧ fI 0xffffffff 0xffffffff 0xffffffff = 0) ∧
  roundI 0x7f2e507b 0x7beb9700 0x8fae6399 0x99d9679d 0x80636261 6 0xf4292244 = 0x7b201df8 ∧
  ∀ r : BitVec 6, (rom r).g = .i ↔ r.extractLsb' 4 2 = 3

/-- The ROM's select, word and rotation columns follow their formulas, and each function reads every word once (R83,
R84). -/
def Obligations.RoundTableFollowsItsSchedules : Prop :=
  (∀ r : BitVec 6,
    let e := rom r
    let n := r.toNat
    (e.g, e.s.toNat, e.k.val) =
      if n < 16 then (.f, [7, 12, 17, 22].getD (n % 4) 0, n)
      else if n < 32 then (.g, [5, 9, 14, 20].getD (n % 4) 0, (5 * n + 1) % 16)
      else if n < 48 then (.h, [4, 11, 16, 23].getD (n % 4) 0, (3 * n + 5) % 16)
      else (.i, [6, 10, 15, 21].getD (n % 4) 0, 7 * n % 16)) ∧
  ∀ (f : Fin 4) (k : Fin 16),
    (List.range 16).countP (fun j => (rom (BitVec.ofNat 6 (16 * f.val + j))).k == k) = 1

/-- Each of the 16 round micro-operations of F completes with the round step of its own table row and nothing else. That
RC counts is R113, for PH = RUN and RC = r; that exec has this effect whatever PH and RC are is the model's choice,
log entry 14 (41_round_functions.md R82, 41_round_functions.md R86, 43_digest_engine.md R113,
notes/assumptions/14.md). -/
def Obligations.RoundsFRunTheRoundStep : Prop :=
  ∀ row ∈ ([
      (.rnd00F, 0, 7, 0xd76aa478), (.rnd01F, 1, 12, 0xe8c7b756), (.rnd02F, 2, 17, 0x242070db), (.rnd03F, 3, 22, 0xc1bdceee),
      (.rnd04F, 4, 7, 0xf57c0faf), (.rnd05F, 5, 12, 0x4787c62a), (.rnd06F, 6, 17, 0xa8304613), (.rnd07F, 7, 22, 0xfd469501),
      (.rnd08F, 8, 7, 0x698098d8), (.rnd09F, 9, 12, 0x8b44f7af), (.rnd10F, 10, 17, 0xffff5bb1), (.rnd11F, 11, 22, 0x895cd7be),
      (.rnd12F, 12, 7, 0x6b901122), (.rnd13F, 13, 12, 0xfd987193), (.rnd14F, 14, 17, 0xa679438e), (.rnd15F, 15, 22, 0x49b40821)] :
      List (Instr × Fin 16 × BitVec 5 × Word)),
    ∀ s : State,
      exec row.1 s = .next { s with
        wv := ⟨s.wv.d, roundF s.wv.a s.wv.b s.wv.c s.wv.d s.x[row.2.1] row.2.2.1 row.2.2.2, s.wv.b, s.wv.c⟩
        rc := s.rc + 1 }

/-- Each of the 16 round micro-operations of G completes with the round step of its own table row and nothing else. That
RC counts is R113, for PH = RUN and RC = r; that exec has this effect whatever PH and RC are is the model's choice,
log entry 14 (41_round_functions.md R82, 41_round_functions.md R86, 43_digest_engine.md R113,
notes/assumptions/14.md). -/
def Obligations.RoundsGRunTheRoundStep : Prop :=
  ∀ row ∈ ([
      (.rnd16G, 1, 5, 0xf61e2562), (.rnd17G, 6, 9, 0xc040b340), (.rnd18G, 11, 14, 0x265e5a51), (.rnd19G, 0, 20, 0xe9b6c7aa),
      (.rnd20G, 5, 5, 0xd62f105d), (.rnd21G, 10, 9, 0x02441453), (.rnd22G, 15, 14, 0xd8a1e681), (.rnd23G, 4, 20, 0xe7d3fbc8),
      (.rnd24G, 9, 5, 0x21e1cde6), (.rnd25G, 14, 9, 0xc33707d6), (.rnd26G, 3, 14, 0xf4d50d87), (.rnd27G, 8, 20, 0x455a14ed),
      (.rnd28G, 13, 5, 0xa9e3e905), (.rnd29G, 2, 9, 0xfcefa3f8), (.rnd30G, 7, 14, 0x676f02d9), (.rnd31G, 12, 20, 0x8d2a4c8a)] :
      List (Instr × Fin 16 × BitVec 5 × Word)),
    ∀ s : State,
      exec row.1 s = .next { s with
        wv := ⟨s.wv.d, roundG s.wv.a s.wv.b s.wv.c s.wv.d s.x[row.2.1] row.2.2.1 row.2.2.2, s.wv.b, s.wv.c⟩
        rc := s.rc + 1 }

/-- Each of the 16 round micro-operations of H completes with the round step of its own table row and nothing else. That
RC counts is R113, for PH = RUN and RC = r; that exec has this effect whatever PH and RC are is the model's choice,
log entry 14 (41_round_functions.md R82, 41_round_functions.md R86, 43_digest_engine.md R113,
notes/assumptions/14.md). -/
def Obligations.RoundsHRunTheRoundStep : Prop :=
  ∀ row ∈ ([
      (.rnd32H, 5, 4, 0xfffa3942), (.rnd33H, 8, 11, 0x8771f681), (.rnd34H, 11, 16, 0x6d9d6122), (.rnd35H, 14, 23, 0xfde5380c),
      (.rnd36H, 1, 4, 0xa4beea44), (.rnd37H, 4, 11, 0x4bdecfa9), (.rnd38H, 7, 16, 0xf6bb4b60), (.rnd39H, 10, 23, 0xbebfbc70),
      (.rnd40H, 13, 4, 0x289b7ec6), (.rnd41H, 0, 11, 0xeaa127fa), (.rnd42H, 3, 16, 0xd4ef3085), (.rnd43H, 6, 23, 0x04881d05),
      (.rnd44H, 9, 4, 0xd9d4d039), (.rnd45H, 12, 11, 0xe6db99e5), (.rnd46H, 15, 16, 0x1fa27cf8), (.rnd47H, 2, 23, 0xc4ac5665)] :
      List (Instr × Fin 16 × BitVec 5 × Word)),
    ∀ s : State,
      exec row.1 s = .next { s with
        wv := ⟨s.wv.d, roundH s.wv.a s.wv.b s.wv.c s.wv.d s.x[row.2.1] row.2.2.1 row.2.2.2, s.wv.b, s.wv.c⟩
        rc := s.rc + 1 }

/-- Each of the 16 round micro-operations of I completes with the round step of its own table row and nothing else. That
RC counts is R113, for PH = RUN and RC = r; that exec has this effect whatever PH and RC are is the model's choice,
log entry 14 (41_round_functions.md R82, 41_round_functions.md R86, 43_digest_engine.md R113,
notes/assumptions/14.md). -/
def Obligations.RoundsIRunTheRoundStep : Prop :=
  ∀ row ∈ ([
      (.rnd48I, 0, 6, 0xf4292244), (.rnd49I, 7, 10, 0x432aff97), (.rnd50I, 14, 15, 0xab9423a7), (.rnd51I, 5, 21, 0xfc93a039),
      (.rnd52I, 12, 6, 0x655b59c3), (.rnd53I, 3, 10, 0x8f0ccc92), (.rnd54I, 10, 15, 0xffeff47d), (.rnd55I, 1, 21, 0x85845dd1),
      (.rnd56I, 8, 6, 0x6fa87e4f), (.rnd57I, 15, 10, 0xfe2ce6e0), (.rnd58I, 6, 15, 0xa3014314), (.rnd59I, 13, 21, 0x4e0811a1),
      (.rnd60I, 4, 6, 0xf7537e82), (.rnd61I, 11, 10, 0xbd3af235), (.rnd62I, 2, 15, 0x2ad7d2bb), (.rnd63I, 9, 21, 0xeb86d391)] :
      List (Instr × Fin 16 × BitVec 5 × Word)),
    ∀ s : State,
      exec row.1 s = .next { s with
        wv := ⟨s.wv.d, roundI s.wv.a s.wv.b s.wv.c s.wv.d s.x[row.2.1] row.2.2.1 row.2.2.2, s.wv.b, s.wv.c⟩
        rc := s.rc + 1 }

/-- After 64 rounds, RFC 1321's fixed-name form and the rotation of roles hold the same four values (R87). -/
def Obligations.FixedNameFormEqualsRoleRotation : Prop :=
  ∀ (x : Vector Word 16) (w : Quad), namedRounds x w 64 = rounds x w 64

/-- decodeBlock reads little-endian words and is a bijection from 64-byte blocks to 16 words (R88, R89). -/
def Obligations.DecodeBlockIsLittleEndianBijection : Prop :=
  (∀ y : List Byte, y.length = 64 → ∀ i : Fin 16,
    ((decodeBlock y)[i].toNat = (byteAt y (4 * i)).toNat + 2 ^ 8 * (byteAt y (4 * i + 1)).toNat
      + 2 ^ 16 * (byteAt y (4 * i + 2)).toNat + 2 ^ 24 * (byteAt y (4 * i + 3)).toNat) ∧
    ∀ j < 4, byteAt y (4 * i + j) = (decodeBlock y)[i].extractLsb' (8 * j) 8) ∧
  (∀ y z : List Byte, y.length = 64 → z.length = 64 → decodeBlock y = decodeBlock z → y = z) ∧
  ∀ x : Vector Word 16, ∃ y : List Byte, y.length = 64 ∧ decodeBlock y = x

/-- pad(m) has n + 1 + z + 8 bytes, a whole number of blocks, one more than n div 64 or two more (R91). -/
def Obligations.PaddedLengthIsWholeBlocks : Prop :=
  ∀ m : List Byte,
    (pad m).length = m.length + 1 + padZeros m.length + 8 ∧ padZeros m.length ≤ 63 ∧
    (pad m).length = 64 * (m.length / 64 + if m.length % 64 ≤ 55 then 1 else 2)

/-- The tail blocks: one or two of 64 bytes, the remainder, 0x80, zeros, and the length field last (R94, R95). -/
def Obligations.TailBlocksHoldRemainderTerminatorAndLength : Prop :=
  ∀ (rem : List Byte) (l : Word), rem.length ≤ 63 →
    tails rem l = (if rem.length ≤ 55 then [tb1 rem l] else [tb1 rem l, tb2 l]) ∧
    (tb1 rem l).length = 64 ∧ (tb2 l).length = 64 ∧
    ∀ j < 64,
      byteAt (tb1 rem l) j =
        (if j < rem.length then byteAt rem j
         else if j = rem.length then 0x80
         else if rem.length ≤ 55 ∧ 56 ≤ j ∧ j < 60 then l.extractLsb' (8 * (j - 56)) 8
         else 0) ∧
      byteAt (tb2 l) j = (if 56 ≤ j ∧ j < 60 then l.extractLsb' (8 * (j - 56)) 8 else 0)

/-- The words of TB1 and TB2 after decodeBlock (R98). -/
def Obligations.TailBlockWordsAreAsListed : Prop :=
  ∀ (rem : List Byte) (l : Word), rem.length ≤ 63 → ∀ i : Fin 16,
    let k := rem.length
    let t := k / 4
    (i.val < t → (decodeBlock (tb1 rem l))[i] = blockWord rem i) ∧
    (i.val = t → (decodeBlock (tb1 rem l))[i] = blockWord rem t ||| (0x80 <<< (8 * (k % 4)))) ∧
    (t < i.val → (decodeBlock (tb1 rem l))[i] = if k ≤ 55 ∧ i.val = 14 then l else 0) ∧
    (decodeBlock (tb2 l))[i] = if i.val = 14 then l else 0

/-- The last padded block ends in LE32 of the bit count modulo 2^32 and four zero bytes, so lengths 2^29 apart pad alike
(R93). -/
def Obligations.LengthFieldEndsTheLastBlock : Prop :=
  (∀ (rem : List Byte) (l : Word), rem.length ≤ 63 →
    let last := (tails rem l).getLastD []
    last.length = 64 ∧
    last.drop 56 = [l.extractLsb' 0 8, l.extractLsb' 8 8, l.extractLsb' 16 8, l.extractLsb' 24 8, 0, 0, 0, 0] ∧
    (decodeBlock last)[14] = l ∧ (decodeBlock last)[15] = 0) ∧
  ∀ n : Nat, (bitLength n).toNat = 8 * n % 2 ^ 32 ∧ bitLength (n + 2 ^ 29) = bitLength n

/-- The blocks of pad(m) are the full blocks of m followed by the tail blocks the hardware builds (R96). -/
def Obligations.PadIsFullBlocksThenTails : Prop :=
  ∀ m : List Byte,
    fullBlocks (pad m) = fullBlocks m ++ tails (remainder m) (bitLength m.length) ∧
    (fullBlocks (pad m)).flatten = pad m

/-- FINAL(k) does the same whatever DIN lanes k..63 hold (R97). -/
def Obligations.FinalIgnoresTheLanesAboveK : Prop :=
  ∀ (k : BitVec 6) (s : State) (p q : Pins) (rest : List Pins),
    (∀ j < k.toNat, dinByte p.din j = dinByte q.din j) →
    ∃ t : State, exec (.final k) { s with inputs := p :: rest } = .next { t with inputs := p :: rest } ∧
      exec (.final k) { s with inputs := q :: rest } = .next { t with inputs := q :: rest }

/-- NOP completes in every state and changes nothing (R106). -/
def Obligations.NopHasNoEffect : Prop :=
  ∀ s : State, exec .nop s = .next s

/-- INIT completes in every state: DS is the IV, LEN 0, FSM INIT, the error cleared, nothing else (R107, R16). -/
def Obligations.InitLoadsTheInitialState : Prop :=
  ∀ s : State,
    let t : State := { s with
      ds := ⟨0x67452301, 0xefcdab89, 0x98badcfe, 0x10325476⟩
      len := 0
      fsm := .init
      err := false
      errCause := 0 }
    exec .init s = .next t ∧ exec .init t = .next t

/-- ABSORB completes when ERR = 0 and FSM is not DONE: it starts the compression of the 64 DIN lanes. R108 requires FSM
= INIT or PROCESSING; the case FSM = FINALIZING is the model's choice, log entry 12, and so is the effect on a state
with PH = RUN, log entry 14 (43_digest_engine.md R105, 43_digest_engine.md R108, 43_digest_engine.md R111,
notes/assumptions/12.md, notes/assumptions/14.md). -/
def Obligations.AbsorbStartsItsBlock : Prop :=
  ∀ s : State, s.err = false → s.fsm ≠ .done →
    exec .absorb s = .next { s with
      x := Vector.ofFn fun i => s.pins.din.extractLsb' (32 * i.val) 32
      wv := s.ds
      rc := 0
      fin := false
      tail2 := false
      len := s.len + 512
      fsm := .processing
      ph := .run }

/-- FINAL(k) completes when ERR = 0 and FSM is not DONE: it starts the compression of its first tail block. R109
requires FSM = INIT or PROCESSING; the case FSM = FINALIZING is the model's choice, log entry 12, and so is the
effect on a state with PH = RUN, log entry 14 (43_digest_engine.md R105, 43_digest_engine.md R109,
43_digest_engine.md R112, notes/assumptions/12.md, notes/assumptions/14.md). -/
def Obligations.FinalStartsItsFirstTailBlock : Prop :=
  ∀ (k : BitVec 6) (s : State), s.err = false → s.fsm ≠ .done →
    let l : Word := s.len + 8 * k.zeroExtend 32
    exec (.final k) s = .next { s with
      len := l
      x := decodeBlock (tb1 ((List.range k.toNat).map fun j => s.pins.din.extractLsb' (8 * j) 8) l)
      wv := s.ds
      rc := 0
      fin := true
      tail2 := decide (56 ≤ k.toNat)
      fsm := .finalizing
      ph := .run }

/-- With FSM = DONE and ERR = 0, ABSORB records cause 3 and FINAL cause 4, and nothing else changes (60_exceptions.md
R128 (causes 3 and 4), 60_exceptions.md R130, 43_digest_engine.md R105). -/
def Obligations.AbsorbAndFinalAfterDoneAreErrors : Prop :=
  ∀ (k : BitVec 6) (s : State), s.fsm = .done → s.err = false →
    exec .absorb s = .next { s with err := true, errCause := 3 } ∧
    exec (.final k) s = .next { s with err := true, errCause := 4 }

/-- While ERR = 1 every accepted word except 0x0001 leaves every register as it was (R131, R133). -/
def Obligations.NothingButInitActsWhileErrorStands : Prop :=
  ∀ s : State, s.err = true →
    (∀ w : BitVec 16, w ≠ 0x0001 → dispatch w s = .next s) ∧
    exec .nop s = .next s ∧ exec .absorb s = .next s ∧ ∀ k : BitVec 6, exec (.final k) s = .next s

/-- A step that accepts an illegal word with ERR = 0 sets ERR and the lowest applicable cause, and changes nothing else
(R130, R134). -/
def Obligations.IllegalWordRecordsItsCauseAndNothingElse : Prop :=
  (∀ (e : CmdError) (s : State), raiseCmdError e s =
    if s.err then s else { s with
      err := true
      errCause := match e with | .rsvdOp => 1 | .rsvdField => 2 | .absorbAfterDone => 3 | .finalAfterDone => 4 }) ∧
  ∀ s : State, s.pins.reset = false → s.ph = .idle → s.pins.cmdValid = true → s.err = false →
    let op := s.pins.cmd.toNat % 8
    let k := s.pins.cmd.toNat / 8 % 64
    let rsv := s.pins.cmd.toNat / 512
    (4 ≤ op → step s =
      .next { s with err := true, errCause := 1, inputs := s.inputs.tail, draw := s.draw + 1 }) ∧
    (op < 4 → (rsv ≠ 0 ∨ (op < 3 ∧ k ≠ 0)) → step s =
      .next { s with err := true, errCause := 2, inputs := s.inputs.tail, draw := s.draw + 1 })

/-- A step from ERR = 1 keeps ERR and ERRCAUSE unless it is a reset or accepts the word 0x0001 (R132). -/
def Obligations.OnlyInitAndResetClearAnError : Prop :=
  ∀ s t : State, step s = .next t → s.err = true →
    s.pins.reset = true ∨ (s.busy = false ∧ s.accepts = true ∧ s.pins.cmd = 0x0001) ∨
      (t.err = true ∧ t.errCause = s.errCause)

/-- When an idle block is offered a word that decodes, step is exec of that instruction, then the host's next pins
(43_digest_engine.md R104, 43_digest_engine.md R105). -/
def Obligations.StepRunsTheAcceptedCommand : Prop :=
  ∀ (s : State) (i : Instr), s.pins.reset = false → s.ph = .idle → s.pins.cmdValid = true →
    decode (.cmd16 s.pins.cmd) = .ok i →
    (∀ t, exec i s = .next t → step s = .next { t with inputs := t.inputs.tail, draw := t.draw + 1 }) ∧
    (∀ r, exec i s = .fault r → step s = .fault r) ∧ ∀ r, exec i s = .refused r → step s = .refused r

/-- When a block runs and RC <= 63, step is exec of the round micro-operation that RC decodes to, then the host's next
pins (43_digest_engine.md R113, 30_encoding.md R62). -/
def Obligations.StepRunsTheRoundThatRcSelects : Prop :=
  ∀ (s : State) (i : Instr), s.pins.reset = false → s.ph = .run → s.rc.toNat ≤ 63 →
    decode (.round6 (BitVec.ofNat 6 s.rc.toNat)) = .ok i →
    (∀ t, exec i s = .next t → step s = .next { t with inputs := t.inputs.tail, draw := t.draw + 1 }) ∧
    (∀ r, exec i s = .fault r → step s = .fault r) ∧ ∀ r, exec i s = .refused r → step s = .refused r

/-- With PH = RUN and RC <= 63, a step performs round step RC and increments RC; DS, LEN, FSM and X are unchanged
(R113). -/
def Obligations.RoundMicroStepChangesOnlyWorkingValuesAndRc : Prop :=
  ∀ s : State, s.pins.reset = false → s.ph = .run → s.rc.toNat ≤ 63 →
    step s = .next { s with
      wv := roundStep (BitVec.ofNat 6 s.rc.toNat) s.x s.wv
      rc := BitVec.ofNat 7 (s.rc.toNat + 1)
      inputs := s.inputs.tail
      draw := s.draw + 1 }

/-- With PH = RUN and RC = 64, a step adds the working values into DS and starts TB2 or ends the command (R114). -/
def Obligations.AddBackEndsABlock : Prop :=
  ∀ s : State, s.pins.reset = false → s.ph = .run → s.rc.toNat = 64 →
    let ds' : Quad := ⟨s.ds.a + s.wv.a, s.ds.b + s.wv.b, s.ds.c + s.wv.c, s.ds.d + s.wv.d⟩
    (s.tail2 = true → step s = .next { s with
      ds := ds'
      x := decodeBlock (List.replicate 56 0 ++ le32 s.len ++ List.replicate 4 0)
      wv := ds'
      rc := 0
      tail2 := false
      inputs := s.inputs.tail
      draw := s.draw + 1 }) ∧
    (s.tail2 = false → ∃ t, step s = .next t ∧ t.ph = .idle ∧ t.ds = ds' ∧
      t.fsm = (if s.fin then .done else s.fsm) ∧ t.len = s.len ∧ t.err = s.err ∧ t.errCause = s.errCause ∧
      t.inputs = s.inputs.tail ∧ t.draw = s.draw + 1)

/-- An idle block with no command offered and no reset keeps every register. That the hidden registers, unspecified
between commands by R36, keep their values too is the model's choice, log entry 6 (60_exceptions.md R142,
10_state.md R36, notes/assumptions/6.md). -/
def Obligations.IdleBlockHoldsItsState : Prop :=
  ∀ s : State, s.pins.reset = false → s.ph = .idle → s.pins.cmdValid = false →
    step s = .next { s with inputs := s.inputs.tail, draw := s.draw + 1 }

/-- While BUSY = 1 a step does the same whatever CMD, DIN and cmd_valid are (R149, R150). -/
def Obligations.BusyBlockIgnoresWhatTheHostOffers : Prop :=
  ∀ (s : State) (p q : Pins) (rest : List Pins), s.ph = .run → p.reset = false → q.reset = false →
    s.cmdReady = false ∧
    step { s with inputs := p :: rest } = step { s with inputs := q :: rest }

/-- A running block whose RC is 65..127 stops with a fault of its own name (the model's choice, log entry 9)
(10_state.md R20, notes/assumptions/9.md). -/
def Obligations.RcOutOfRangeStops : Prop :=
  ∀ s : State, s.pins.reset = false → s.ph = .run → 64 < s.rc.toNat → step s = .fault .rcOutOfRange

/-- A step in which reset is asserted puts every specified register in its reset value, from any state. That it wins
over an offer with cmd_ready = 1 in the same step is the model's choice, log entry 4 (70_reset_and_hazards.md R143,
70_reset_and_hazards.md R144, 93_implementation_defined.md I15, notes/assumptions/4.md). -/
def Obligations.ResetFromAnyStateGivesTheResetState : Prop :=
  ∀ s : State, s.pins.reset = true →
    ∃ t, step s = .next t ∧ t.ds = ⟨0x67452301, 0xefcdab89, 0x98badcfe, 0x10325476⟩ ∧ t.fsm = .init ∧ t.len = 0 ∧
      t.err = false ∧ t.errCause = 0 ∧ t.ph = .idle ∧ t.status = 0x00 ∧ t.cmdReady = true ∧
      t.digestPort = digestView iv ∧ t.hexPort = hexView iv ∧ t.inputs = s.inputs.tail ∧
      ∃ u, exec .init s = .next u ∧ u.arch = t.arch

/-- After reset STATUS is 0x00, DIGEST is the byte view of the IV and HEX spells it (R143). -/
def Obligations.StateAfterResetShowsTheInitialValue : Prop :=
  State.reset.arch = ⟨⟨0x67452301, 0xefcdab89, 0x98badcfe, 0x10325476⟩, .init, 0, false, 0⟩ ∧
  State.reset.ph = .idle ∧ State.reset.status = 0x00 ∧
  State.reset.digestPort = 0x1032547698badcfeefcdab8967452301 ∧
  (List.range 32).map (fun c => State.reset.hexPort.extractLsb' (8 * c) 8) =
    "0123456789abcdeffedcba9876543210".toList.map fun ch => BitVec.ofNat 8 ch.toNat

/-- The state after reset meets the invariant (10_state.md R22, 10_state.md R25, 70_reset_and_hazards.md R143). -/
def Obligations.InvariantHoldsAtReset : Prop :=
  State.reset.Inv

/-- A step from any state that meets the invariant gives a state that meets it (10_state.md R20, 10_state.md R22,
10_state.md R23, 10_state.md R25, 60_exceptions.md R128, 70_reset_and_hazards.md R146). -/
def Obligations.EveryStepKeepsTheInvariant : Prop :=
  ∀ s t : State, s.Inv → step s = .next t → t.Inv

/-- A step from a state that meets the invariant always answers a next state (60_exceptions.md R127, 10_state.md R20). -/
def Obligations.InvariantStatesNeverStop : Prop :=
  ∀ s : State, s.Inv → ∃ t, step s = .next t

/-- DS changes only by reset, by an accepted INIT and by the add-back (R102). -/
def Obligations.DsIsWrittenByThreeEventsOnly : Prop :=
  ∀ s t : State, step s = .next t →
    (t.ds = iv ∧ (s.pins.reset = true ∨
      (s.ph = .idle ∧ s.pins.cmdValid = true ∧ s.pins.cmd = 0x0001))) ∨
    (t.ds = ⟨s.ds.a + s.wv.a, s.ds.b + s.wv.b, s.ds.c + s.wv.c, s.ds.d + s.wv.d⟩ ∧
      s.pins.reset = false ∧ s.ph = .run ∧ s.rc.toNat = 64) ∨
    (t.ds = s.ds ∧ s.pins.reset = false ∧ ¬(s.ph = .run ∧ s.rc.toNat = 64) ∧
      ¬(s.ph = .idle ∧ s.pins.cmdValid = true ∧ s.pins.cmd = 0x0001))

/-- States that differ only in the registers unspecified between commands stay alike and show the same outputs (R36). -/
def Obligations.HiddenRegistersNeverMatterBetweenCommands : Prop :=
  ∀ s t : State, s.Alike t →
    s.status = t.status ∧ s.digestPort = t.digestPort ∧ s.hexPort = t.hexPort ∧
    (∀ s', step s = .next s' → ∃ t', step t = .next t' ∧ s'.Alike t') ∧
    (∀ r, step s = .fault r → step t = .fault r) ∧ ∀ r, step s = .refused r → step t = .refused r

/-- FSM at command boundaries follows the transition table while ERR = 0. R103's table has the rows INIT, PROCESSING and
DONE; that ABSORB and FINAL run from FINALIZING too is the model's choice, log entry 12 (43_digest_engine.md R103,
60_exceptions.md R128, notes/assumptions/12.md). -/
def Obligations.TransitionsFollowTheirTable : Prop :=
  ∀ (w : BitVec 16) (din : BitVec 512) (m : Arch), m.err = false →
    let n := transact w din m
    (w = 0x0001 → n.fsm = .init ∧ n.err = false) ∧
    (w = 0x0000 → n = m) ∧
    (w = 0x0002 → m.fsm ≠ .done → n.fsm = .processing ∧ n.err = false) ∧
    (w = 0x0002 → m.fsm = .done → n = { m with err := true, errCause := 3 }) ∧
    (∀ k : BitVec 6, w = cmdWord k 3 → m.fsm ≠ .done → n.fsm = .done ∧ n.err = false) ∧
    (∀ k : BitVec 6, w = cmdWord k 3 → m.fsm = .done → n = { m with err := true, errCause := 4 }) ∧
    ∀ e, decodeCmd w = .illegal e → n = { m with err := true, errCause := if e = .rsvdOp then 1 else 2 }

/-- From acceptance the datapath is busy for exactly 0, 65 or 130 micro-steps and then has the transaction's registers.
The idle block with FSM = FINALIZING is the model's choice, log entry 12 (43_digest_engine.md R115,
notes/assumptions/12.md). -/
def Obligations.DatapathAgreesWithTheTransactionLevel : Prop :=
  ∀ (s : State) (p : Pins) (rest : List Pins),
    s.ph = .idle → s.inputs = p :: rest → p.reset = false → p.cmdValid = true →
    let n := microSteps p.cmd s.arch
    (∀ q ∈ rest.take n, q.reset = false) →
    (∀ j < n, ∃ t, Host.Core.run Sys2Proof.core (j + 1) s = .next t ∧ t.busy = true) ∧
    ∃ t : State, Host.Core.run Sys2Proof.core (n + 1) s = .next t ∧ t.busy = false ∧
      t.arch = transact p.cmd p.din s.arch ∧ t.inputs = rest.drop n

/-- After INIT and b ABSORBs, DS is the fold of compress over the blocks and LEN is 512 b modulo 2^32
(43_digest_engine.md R119, 43_digest_engine.md R120). -/
def Obligations.AbsorbsChainAndCountTheirBlocks : Prop :=
  ∀ (m : Arch) (blocks : List (List Byte)), (∀ y ∈ blocks, y.length = 64) →
    let n := transactAll ((HostLine.init :: blocks.map HostLine.absorb).filterMap HostLine.offer) m
    n.ds = blocks.foldl (fun h y => compress h (decodeBlock y)) iv ∧
    n.len.toNat = 8 * (64 * blocks.length) % 2 ^ 32 ∧
    n.fsm = (if blocks = [] then .init else .processing) ∧ n.err = false ∧ n.errCause = 0 ∧
    ∀ (k : BitVec 6) (din : BitVec 512),
      (transact (cmdWord k 3) din n).len.toNat = 8 * (64 * blocks.length + k.toNat) % 2 ^ 32

/-- The canonical sequence for m ends in DONE with the compression of exactly the blocks of pad(m), in order, from the
IV (R116). -/
def Obligations.CanonicalSequenceGivesTheMessageDigest : Prop :=
  ∀ (m : List Byte) (before : Arch),
    transactAll (canonical m) before = ⟨messageState m, .done, bitLength m.length, false, 0⟩

/-- From any idle state, a host that waits for cmd_ready and presents m reads the digest of m on DIGEST and HEX. The
host, which offers a command for one step and waits at most 130 steps, is the model's, log entry 15
(43_digest_engine.md R116, 43_digest_engine.md R117, 43_digest_engine.md R118, notes/assumptions/15.md). -/
def Obligations.WaitingHostReadsTheMessageDigest : Prop :=
  ∀ (m : List Byte) (s : State), s.ph = .idle →
    ∃ t, hostRun (canonical m) s = .next t ∧ t.ph = .idle ∧ t.status = 0x03 ∧ t.resultReady = true ∧
      t.ds = messageState m ∧ t.digestPort = digestView (messageState m) ∧ t.hexPort = hexView (messageState m)

/-- With FSM = DONE, only INIT and reset change DS or leave DONE (10_state.md R15, 43_digest_engine.md R103,
92_eei_decisions.md D25). -/
def Obligations.DoneKeepsItsDigest : Prop :=
  ∀ s t : State, step s = .next t → s.ph = .idle → s.fsm = .done → s.pins.reset = false →
    (s.pins.cmdValid = true → s.pins.cmd ≠ 0x0001) →
    t.ds = s.ds ∧ t.fsm = .done ∧ t.len = s.len ∧ t.ph = .idle

/-- STATUS is FSM, BUSY, ERR, ERRCAUSE and a zero, each in its place (R26, R29). -/
def Obligations.StatusShowsItsFields : Prop :=
  (∀ s : State,
    (s.status.extractLsb' 0 2).toNat =
      (match s.fsm with | .init => 0 | .processing => 1 | .finalizing => 2 | .done => 3) ∧
    (s.status.getLsbD 2 = true ↔ s.ph = .run) ∧
    s.cmdReady = !s.status.getLsbD 2 ∧
    s.status.getLsbD 3 = s.err ∧
    s.status.extractLsb' 4 3 = s.errCause ∧
    s.status.getLsbD 7 = false ∧
    (s.Inv → (s.status.extractLsb' 4 3).toNat ≤ 4 ∧ (s.ph = .idle → s.status.extractLsb' 0 2 ≠ 0b10))) ∧
  State.reset.status = 0x00

/-- DIGEST holds the words A, B, C, D in order, each little-endian, byte i in lane i (R121, R122). -/
def Obligations.DigestBytesAreLittleEndianInOrder : Prop :=
  ∀ q : Quad,
    (digestBytes q).length = 16 ∧
    (∀ w < 4, ∀ j < 4, byteAt (digestBytes q) (4 * w + j) = ([q.a, q.b, q.c, q.d].getD w 0).extractLsb' (8 * j) 8) ∧
    (∀ i < 16, (digestView q).extractLsb' (8 * i) 8 = byteAt (digestBytes q) i) ∧
    digestView q = q.d ++ q.c ++ q.b ++ q.a

/-- HEX holds two lowercase characters per digest byte, the high nibble first, character c in lane c (R123, R124, R125). -/
def Obligations.HexShowsEachByteHighNibbleFirst : Prop :=
  (∀ v : BitVec 4, (hexchar v).toNat = if v.toNat ≤ 9 then 0x30 + v.toNat else 0x61 + (v.toNat - 10)) ∧
  (∀ q : Quad, (hexEncode q).length = 32 ∧
    (∀ c < 32, (hexView q).extractLsb' (8 * c) 8 = byteAt (hexEncode q) c) ∧
    ∀ i < 16,
      byteAt (hexEncode q) (2 * i) = hexchar ((byteAt (digestBytes q) i).extractLsb' 4 4) ∧
      byteAt (hexEncode q) (2 * i + 1) = hexchar ((byteAt (digestBytes q) i).extractLsb' 0 4)) ∧
  hexEncode ⟨0x98500190, 0xb04fd23c, 0x7d3f96d6, 0x727fe128⟩ =
    "900150983cd24fb0d6963f7d28e17f72".toList.map fun ch => BitVec.ofNat 8 ch.toNat

/-- In every state, busy or not, HEX is 32 characters of 0..9 and a..f. While BUSY = 1 R54 leaves HEX unspecified; that
it keeps its shape then is the model's choice, log entry 7 (44_hex_encoder.md R126, 20_memory.md R54,
93_implementation_defined.md I7, notes/assumptions/7.md). -/
def Obligations.HexIsAlways32LowercaseDigits : Prop :=
  ∀ (s : State) (c : Nat), c < 32 →
    let ch := (s.hexPort.extractLsb' (8 * c) 8).toNat
    (0x30 ≤ ch ∧ ch ≤ 0x39) ∨ (0x61 ≤ ch ∧ ch ≤ 0x66)

/-- The result is ready exactly when FSM = DONE, BUSY = 0 and ERR = 0, and then DIGEST and HEX show DS
(70_reset_and_hazards.md R151, 43_digest_engine.md R117, 10_state.md R30). -/
def Obligations.ResultIsReadyExactlyWhenDone : Prop :=
  ∀ s : State,
    (s.resultReady = true ↔ s.fsm = .done ∧ s.ph = .idle ∧ s.err = false) ∧
    (s.ph = .idle → s.digestPort = digestView s.ds ∧ s.hexPort = hexView s.ds)

/-- INIT and NOP have no latency; ABSORB and FINAL take the open positive parameters. The function latency and its
constants are the model's own, which no step reads, log entry 2; the last clause is R8's (00_scope.md R8,
notes/assumptions/2.md). -/
def Obligations.OnlyAbsorbAndFinalTakeTime : Prop :=
  latency .nop = 0 ∧ latency .init = 0 ∧ latency .absorb = Config.latAbsorb ∧
  (∀ k : BitVec 6, latency (.final k) =
    if k.toNat ≤ 55 then (Config.latFinal1 : Nat) else (Config.latFinal2 : Nat)) ∧
  0 < latency .absorb ∧ (∀ k : BitVec 6, 0 < latency (.final k)) ∧
  ∀ s : State, s.pins.reset = false → s.ph = .idle → s.pins.cmdValid = true →
    (s.pins.cmd = 0x0000 ∨ s.pins.cmd = 0x0001) → ∃ t, step s = .next t ∧ t.busy = false

/-- Each host line offers its word, and its bytes stand in the DIN lanes, lane 0 first, the rest 0x00 (30_encoding.md
R65, 20_memory.md R40, 20_memory.md R45). -/
def Obligations.HostLinesCarryTheirWordsAndLanes : Prop :=
  (∀ bytes : List Byte, bytes.length ≤ 64 → ∀ j < 64, dinByte (packDin bytes) j = byteAt bytes j) ∧
  (HostLine.nop.offer.map Offer.cmd = some 0x0000 ∧ HostLine.init.offer.map Offer.cmd = some 0x0001) ∧
  (∀ block : List Byte, (HostLine.absorb block).offer = some ⟨0x0002, packDin block⟩) ∧
  (∀ rem : List Byte, rem.length ≤ 63 →
    (HostLine.final rem).offer =
      some ⟨0x0003 ||| (BitVec.ofNat 16 rem.length <<< 3), packDin rem⟩ ∧
    decodeCmd (0x0003 ||| (BitVec.ofNat 16 rem.length <<< 3)) = .legal (.final (BitVec.ofNat 6 rem.length))) ∧
  (∀ w : BitVec 16, ∃ din, (HostLine.word w).offer = some ⟨w, din⟩ ∧ ∀ j < 64, dinByte din j = 0) ∧
  ∀ s : State,
    runProgram [.readStatus] s = ([s.status.toNat], .next s) ∧
    runProgram [.readDigest] s = ([s.digestPort.toNat], .next s) ∧
    runProgram [.readHex] s = ([s.hexPort.toNat], .next s)
end

