-- ==== Sys2Proof/Laws/Arith.lean ====
section
/-! SUPPORT. The 32-bit operations as operations on bit vectors, so that the library's lemmas apply. -/

namespace Sys2Proof.Machine

theorem add32_eq_add (a b : Word) : add32 a b = a + b := by
  apply BitVec.eq_of_toNat_eq
  simp [add32, BitVec.toNat_add]

theorem rotl_eq_rotateLeft (v : Word) (s : BitVec 5) : rotl v s = v.rotateLeft s.toNat := by
  have h : s.toNat % 32 = s.toNat := Nat.mod_eq_of_lt s.isLt
  simp [rotl, BitVec.rotateLeft, BitVec.rotateLeftAux, h]

theorem not32_eq_complement (v : Word) : not32 v = ~~~v := by
  rw [← BitVec.xor_allOnes]; rfl

end Sys2Proof.Machine
end

