-- ==== Sys2Proof/Laws/State.lean ====
section
/-! SUPPORT. One lemma per field per named update of the state, so that no later proof unfolds a record update. The
fields that take free values (10_state.md R36) have no lemma: nothing is known of them. -/

namespace Sys2Proof.Machine

@[simp] theorem clearError_ds (s : State) : (clearError s).ds = s.ds := rfl
@[simp] theorem clearError_wv (s : State) : (clearError s).wv = s.wv := rfl
@[simp] theorem clearError_x (s : State) : (clearError s).x = s.x := rfl
@[simp] theorem clearError_rc (s : State) : (clearError s).rc = s.rc := rfl
@[simp] theorem clearError_ph (s : State) : (clearError s).ph = s.ph := rfl
@[simp] theorem clearError_fin (s : State) : (clearError s).fin = s.fin := rfl
@[simp] theorem clearError_tail2 (s : State) : (clearError s).tail2 = s.tail2 := rfl
@[simp] theorem clearError_fsm (s : State) : (clearError s).fsm = s.fsm := rfl
@[simp] theorem clearError_len (s : State) : (clearError s).len = s.len := rfl
@[simp] theorem clearError_err (s : State) : (clearError s).err = false := rfl
@[simp] theorem clearError_errCause (s : State) : (clearError s).errCause = 0 := rfl
@[simp] theorem clearError_inputs (s : State) : (clearError s).inputs = s.inputs := rfl
@[simp] theorem clearError_draw (s : State) : (clearError s).draw = s.draw := rfl

@[simp] theorem loadIv_ds (s : State) : (loadIv s).ds = iv := rfl
@[simp] theorem loadIv_wv (s : State) : (loadIv s).wv = s.wv := rfl
@[simp] theorem loadIv_x (s : State) : (loadIv s).x = s.x := rfl
@[simp] theorem loadIv_rc (s : State) : (loadIv s).rc = s.rc := rfl
@[simp] theorem loadIv_ph (s : State) : (loadIv s).ph = s.ph := rfl
@[simp] theorem loadIv_fin (s : State) : (loadIv s).fin = s.fin := rfl
@[simp] theorem loadIv_tail2 (s : State) : (loadIv s).tail2 = s.tail2 := rfl
@[simp] theorem loadIv_fsm (s : State) : (loadIv s).fsm = s.fsm := rfl
@[simp] theorem loadIv_len (s : State) : (loadIv s).len = s.len := rfl
@[simp] theorem loadIv_err (s : State) : (loadIv s).err = s.err := rfl
@[simp] theorem loadIv_errCause (s : State) : (loadIv s).errCause = s.errCause := rfl
@[simp] theorem loadIv_inputs (s : State) : (loadIv s).inputs = s.inputs := rfl
@[simp] theorem loadIv_draw (s : State) : (loadIv s).draw = s.draw := rfl

@[simp] theorem startBlock_ds (y : List Byte) (s : State) : (startBlock y s).ds = s.ds := rfl
@[simp] theorem startBlock_wv (y : List Byte) (s : State) : (startBlock y s).wv = s.ds := rfl
@[simp] theorem startBlock_x (y : List Byte) (s : State) : (startBlock y s).x = decodeBlock y := rfl
@[simp] theorem startBlock_rc (y : List Byte) (s : State) : (startBlock y s).rc = 0 := rfl
@[simp] theorem startBlock_ph (y : List Byte) (s : State) : (startBlock y s).ph = .run := rfl
@[simp] theorem startBlock_fin (y : List Byte) (s : State) : (startBlock y s).fin = s.fin := rfl
@[simp] theorem startBlock_tail2 (y : List Byte) (s : State) : (startBlock y s).tail2 = s.tail2 := rfl
@[simp] theorem startBlock_fsm (y : List Byte) (s : State) : (startBlock y s).fsm = s.fsm := rfl
@[simp] theorem startBlock_len (y : List Byte) (s : State) : (startBlock y s).len = s.len := rfl
@[simp] theorem startBlock_err (y : List Byte) (s : State) : (startBlock y s).err = s.err := rfl
@[simp] theorem startBlock_errCause (y : List Byte) (s : State) : (startBlock y s).errCause = s.errCause := rfl
@[simp] theorem startBlock_inputs (y : List Byte) (s : State) : (startBlock y s).inputs = s.inputs := rfl
@[simp] theorem startBlock_draw (y : List Byte) (s : State) : (startBlock y s).draw = s.draw := rfl

@[simp] theorem roundMicroStep_ds (r : BitVec 6) (s : State) : (roundMicroStep r s).ds = s.ds := rfl
@[simp] theorem roundMicroStep_wv (r : BitVec 6) (s : State) : (roundMicroStep r s).wv = roundStep r s.x s.wv := rfl
@[simp] theorem roundMicroStep_x (r : BitVec 6) (s : State) : (roundMicroStep r s).x = s.x := rfl
@[simp] theorem roundMicroStep_rc (r : BitVec 6) (s : State) : (roundMicroStep r s).rc = s.rc + 1 := rfl
@[simp] theorem roundMicroStep_ph (r : BitVec 6) (s : State) : (roundMicroStep r s).ph = s.ph := rfl
@[simp] theorem roundMicroStep_fin (r : BitVec 6) (s : State) : (roundMicroStep r s).fin = s.fin := rfl
@[simp] theorem roundMicroStep_tail2 (r : BitVec 6) (s : State) : (roundMicroStep r s).tail2 = s.tail2 := rfl
@[simp] theorem roundMicroStep_fsm (r : BitVec 6) (s : State) : (roundMicroStep r s).fsm = s.fsm := rfl
@[simp] theorem roundMicroStep_len (r : BitVec 6) (s : State) : (roundMicroStep r s).len = s.len := rfl
@[simp] theorem roundMicroStep_err (r : BitVec 6) (s : State) : (roundMicroStep r s).err = s.err := rfl
@[simp] theorem roundMicroStep_errCause (r : BitVec 6) (s : State) : (roundMicroStep r s).errCause = s.errCause := rfl
@[simp] theorem roundMicroStep_inputs (r : BitVec 6) (s : State) : (roundMicroStep r s).inputs = s.inputs := rfl
@[simp] theorem roundMicroStep_draw (r : BitVec 6) (s : State) : (roundMicroStep r s).draw = s.draw := rfl

@[simp] theorem freeHidden_ds (s : State) : (freeHidden s).ds = s.ds := rfl
@[simp] theorem freeHidden_ph (s : State) : (freeHidden s).ph = s.ph := rfl
@[simp] theorem freeHidden_fsm (s : State) : (freeHidden s).fsm = s.fsm := rfl
@[simp] theorem freeHidden_len (s : State) : (freeHidden s).len = s.len := rfl
@[simp] theorem freeHidden_err (s : State) : (freeHidden s).err = s.err := rfl
@[simp] theorem freeHidden_errCause (s : State) : (freeHidden s).errCause = s.errCause := rfl
@[simp] theorem freeHidden_inputs (s : State) : (freeHidden s).inputs = s.inputs := rfl
@[simp] theorem freeHidden_draw (s : State) : (freeHidden s).draw = s.draw := rfl

@[simp] theorem finishCommand_ds (s : State) : (finishCommand s).ds = s.ds := rfl
@[simp] theorem finishCommand_ph (s : State) : (finishCommand s).ph = .idle := rfl
@[simp] theorem finishCommand_fsm (s : State) : (finishCommand s).fsm = if s.fin then .done else s.fsm := rfl
@[simp] theorem finishCommand_len (s : State) : (finishCommand s).len = s.len := rfl
@[simp] theorem finishCommand_err (s : State) : (finishCommand s).err = s.err := rfl
@[simp] theorem finishCommand_errCause (s : State) : (finishCommand s).errCause = s.errCause := rfl
@[simp] theorem finishCommand_inputs (s : State) : (finishCommand s).inputs = s.inputs := rfl
@[simp] theorem finishCommand_draw (s : State) : (finishCommand s).draw = s.draw := rfl

@[simp] theorem resetEvent_ds (s : State) : (resetEvent s).ds = iv := rfl
@[simp] theorem resetEvent_ph (s : State) : (resetEvent s).ph = .idle := rfl
@[simp] theorem resetEvent_fsm (s : State) : (resetEvent s).fsm = .init := rfl
@[simp] theorem resetEvent_len (s : State) : (resetEvent s).len = 0 := rfl
@[simp] theorem resetEvent_err (s : State) : (resetEvent s).err = false := rfl
@[simp] theorem resetEvent_errCause (s : State) : (resetEvent s).errCause = 0 := rfl
@[simp] theorem resetEvent_inputs (s : State) : (resetEvent s).inputs = s.inputs := rfl
@[simp] theorem resetEvent_draw (s : State) : (resetEvent s).draw = s.draw := rfl

@[simp] theorem addLen_ds (n : Nat) (s : State) : (addLen n s).ds = s.ds := rfl
@[simp] theorem addLen_wv (n : Nat) (s : State) : (addLen n s).wv = s.wv := rfl
@[simp] theorem addLen_x (n : Nat) (s : State) : (addLen n s).x = s.x := rfl
@[simp] theorem addLen_rc (n : Nat) (s : State) : (addLen n s).rc = s.rc := rfl
@[simp] theorem addLen_ph (n : Nat) (s : State) : (addLen n s).ph = s.ph := rfl
@[simp] theorem addLen_fin (n : Nat) (s : State) : (addLen n s).fin = s.fin := rfl
@[simp] theorem addLen_tail2 (n : Nat) (s : State) : (addLen n s).tail2 = s.tail2 := rfl
@[simp] theorem addLen_fsm (n : Nat) (s : State) : (addLen n s).fsm = s.fsm := rfl
@[simp] theorem addLen_len (n : Nat) (s : State) : (addLen n s).len = BitVec.ofNat 32 ((s.len.toNat + n) % 2 ^ 32) := rfl
@[simp] theorem addLen_err (n : Nat) (s : State) : (addLen n s).err = s.err := rfl
@[simp] theorem addLen_errCause (n : Nat) (s : State) : (addLen n s).errCause = s.errCause := rfl
@[simp] theorem addLen_inputs (n : Nat) (s : State) : (addLen n s).inputs = s.inputs := rfl
@[simp] theorem addLen_draw (n : Nat) (s : State) : (addLen n s).draw = s.draw := rfl

@[simp] theorem State.tick_ds (s : State) : (s.tick).ds = s.ds := rfl
@[simp] theorem State.tick_wv (s : State) : (s.tick).wv = s.wv := rfl
@[simp] theorem State.tick_x (s : State) : (s.tick).x = s.x := rfl
@[simp] theorem State.tick_rc (s : State) : (s.tick).rc = s.rc := rfl
@[simp] theorem State.tick_ph (s : State) : (s.tick).ph = s.ph := rfl
@[simp] theorem State.tick_fin (s : State) : (s.tick).fin = s.fin := rfl
@[simp] theorem State.tick_tail2 (s : State) : (s.tick).tail2 = s.tail2 := rfl
@[simp] theorem State.tick_fsm (s : State) : (s.tick).fsm = s.fsm := rfl
@[simp] theorem State.tick_len (s : State) : (s.tick).len = s.len := rfl
@[simp] theorem State.tick_err (s : State) : (s.tick).err = s.err := rfl
@[simp] theorem State.tick_errCause (s : State) : (s.tick).errCause = s.errCause := rfl
@[simp] theorem State.tick_inputs (s : State) : (s.tick).inputs = s.inputs.tail := rfl
@[simp] theorem State.tick_draw (s : State) : (s.tick).draw = s.draw + 1 := rfl

@[simp] theorem raiseCmdError_ds (e : CmdError) (s : State) : (raiseCmdError e s).ds = s.ds := by
  unfold raiseCmdError; split <;> rfl
@[simp] theorem raiseCmdError_wv (e : CmdError) (s : State) : (raiseCmdError e s).wv = s.wv := by
  unfold raiseCmdError; split <;> rfl
@[simp] theorem raiseCmdError_x (e : CmdError) (s : State) : (raiseCmdError e s).x = s.x := by
  unfold raiseCmdError; split <;> rfl
@[simp] theorem raiseCmdError_rc (e : CmdError) (s : State) : (raiseCmdError e s).rc = s.rc := by
  unfold raiseCmdError; split <;> rfl
@[simp] theorem raiseCmdError_ph (e : CmdError) (s : State) : (raiseCmdError e s).ph = s.ph := by
  unfold raiseCmdError; split <;> rfl
@[simp] theorem raiseCmdError_fin (e : CmdError) (s : State) : (raiseCmdError e s).fin = s.fin := by
  unfold raiseCmdError; split <;> rfl
@[simp] theorem raiseCmdError_tail2 (e : CmdError) (s : State) : (raiseCmdError e s).tail2 = s.tail2 := by
  unfold raiseCmdError; split <;> rfl
@[simp] theorem raiseCmdError_fsm (e : CmdError) (s : State) : (raiseCmdError e s).fsm = s.fsm := by
  unfold raiseCmdError; split <;> rfl
@[simp] theorem raiseCmdError_len (e : CmdError) (s : State) : (raiseCmdError e s).len = s.len := by
  unfold raiseCmdError; split <;> rfl
@[simp] theorem raiseCmdError_inputs (e : CmdError) (s : State) : (raiseCmdError e s).inputs = s.inputs := by
  unfold raiseCmdError; split <;> rfl
@[simp] theorem raiseCmdError_draw (e : CmdError) (s : State) : (raiseCmdError e s).draw = s.draw := by
  unfold raiseCmdError; split <;> rfl
@[simp] theorem raiseCmdError_err (e : CmdError) (s : State) : (raiseCmdError e s).err = true := by
  unfold raiseCmdError; split <;> simp_all
@[simp] theorem raiseCmdError_errCause (e : CmdError) (s : State) :
    (raiseCmdError e s).errCause = if s.err then s.errCause else e.code := by
  unfold raiseCmdError; split <;> simp_all

/-- While ERR = 1 a further error changes nothing (60_exceptions.md R133). -/
theorem raiseCmdError_of_err (e : CmdError) (s : State) (h : s.err = true) : raiseCmdError e s = s := by
  simp [raiseCmdError, h]

end Sys2Proof.Machine
end

