-- ==== Sys2Proof/Laws/Step.lean ====
section
/-! SUPPORT. What one step can do: one lemma for the meanings, one inversion lemma for each part of the sequencer. -/

namespace Sys2Proof.Machine

/-- Each round micro-operation is the round micro-step at its own index. -/
theorem exec_decodeRound (r : BitVec 6) (s : State) : exec (decodeRound r) s = .next (roundMicroStep r s) := by
  have key : ∀ n (h : n < 64), exec (decodeRound (BitVec.ofNat 6 n)) s = .next (roundMicroStep (BitVec.ofNat 6 n) s) := by
    intro n h
    interval_cases n <;> rfl
  have h := key r.toNat r.isLt
  rwa [BitVec.ofNat_toNat, BitVec.setWidth_eq] at h

/-- A command always answers a next state, and which one it is. -/
theorem exec_command (c : Command) (s : State) :
    exec c.toInstr s = .next (match c with
      | .nop => s
      | .init => clearError (loadIv { s with len := 0, fsm := .init })
      | .absorb => unlessError s (if s.fsm = .done then raiseCmdError .absorbAfterDone s else acceptAbsorb s)
      | .final k => unlessError s (if s.fsm = .done then raiseCmdError .finalAfterDone s else acceptFinal k s)) := by
  cases c <;> rfl

/-- What the dispatch of an accepted word can do (43_digest_engine.md R105). -/
theorem dispatch_cases {w : BitVec 16} {s t : State} (h : dispatch w s = .next t) :
    (∃ e, decodeCmd w = .illegal e ∧ t = raiseCmdError e s) ∨
    (decodeCmd w = .legal .nop ∧ t = s) ∨
    (decodeCmd w = .legal .init ∧ t = clearError (loadIv { s with len := 0, fsm := .init })) ∨
    (decodeCmd w = .legal .absorb ∧
      ((s.err = true ∧ t = s) ∨
       (s.err = false ∧ s.fsm = .done ∧ t = raiseCmdError .absorbAfterDone s) ∨
       (s.err = false ∧ s.fsm ≠ .done ∧ t = acceptAbsorb s))) ∨
    (∃ k, decodeCmd w = .legal (.final k) ∧
      ((s.err = true ∧ t = s) ∨
       (s.err = false ∧ s.fsm = .done ∧ t = raiseCmdError .finalAfterDone s) ∨
       (s.err = false ∧ s.fsm ≠ .done ∧ t = acceptFinal k s))) := by
  unfold dispatch at h
  split at h
  case h_2 e hd => cases h; exact .inl ⟨e, hd, rfl⟩
  case h_1 c hd =>
    rw [exec_command] at h
    cases h
    cases c with
    | nop => exact .inr (.inl ⟨hd, rfl⟩)
    | init => exact .inr (.inr (.inl ⟨hd, rfl⟩))
    | absorb =>
      refine .inr (.inr (.inr (.inl ⟨hd, ?_⟩)))
      cases he : s.err <;> by_cases hf : s.fsm = .done <;> simp [unlessError, he, hf]
    | final k =>
      refine .inr (.inr (.inr (.inr ⟨k, hd, ?_⟩)))
      cases he : s.err <;> by_cases hf : s.fsm = .done <;> simp [unlessError, he, hf]

/-- What the add-back can do (43_digest_engine.md R114). -/
theorem addBack_cases (s : State) :
    (s.tail2 = true ∧ addBack s = startBlock (tb2 s.len) { s with ds := accumulate s.ds s.wv, tail2 := false }) ∨
    (s.tail2 = false ∧ addBack s = finishCommand { s with ds := accumulate s.ds s.wv }) := by
  cases h : s.tail2 <;> simp [addBack, h]

/-- What a micro-step can do (43_digest_engine.md R113, R114). -/
theorem microStep_cases {s t : State} (h : microStep s = .next t) :
    (s.rc.toNat ≤ 63 ∧ t = roundMicroStep s.roundIndex s) ∨ (s.rc.toNat = 64 ∧ t = addBack s) := by
  unfold microStep at h
  split at h
  · rw [exec_decodeRound] at h; cases h; exact .inl ⟨‹_›, rfl⟩
  · split at h
    · cases h; exact .inr ⟨‹_›, rfl⟩
    · cases h

/-- What one step can do, its guards included. -/
theorem step_cases {s t : State} (h : step s = .next t) :
    ∃ u, t = u.tick ∧
      ((s.pins.reset = true ∧ u = resetEvent s) ∨
       (s.pins.reset = false ∧ s.busy = true ∧ microStep s = .next u) ∨
       (s.pins.reset = false ∧ s.busy = false ∧ s.accepts = true ∧ dispatch s.pins.cmd s = .next u) ∨
       (s.pins.reset = false ∧ s.busy = false ∧ s.accepts = false ∧ u = s)) := by
  unfold step at h
  cases he : event s with
  | fault r => rw [he] at h; cases h
  | refused r => rw [he] at h; cases h
  | next u =>
    rw [he] at h
    cases h
    refine ⟨u, rfl, ?_⟩
    unfold event at he
    cases hr : s.pins.reset <;> cases hb : s.busy <;> cases ha : s.accepts <;> simp_all

end Sys2Proof.Machine
end

