-- ==== Sys2Proof/Laws/Datapath.lean ====
section
/-! SUPPORT. What a step is in each of the three situations of the block, and where a run of n rounds leads: the number
of rounds stays a variable, so that no proof unfolds 64 of them. -/

namespace Sys2Proof.Machine

theorem step_reset (s : State) (h : s.pins.reset = true) : step s = .next (resetEvent s).tick := by
  simp [step, event, h, thenTick]

theorem step_idle (s : State) (h : s.pins.reset = false) (hi : s.ph = .idle) :
    step s = thenTick (if s.pins.cmdValid then dispatch s.pins.cmd s else .next s) := by
  simp [step, event, h, State.busy, hi, State.accepts, State.cmdReady]

theorem step_run (s : State) (h : s.pins.reset = false) (hi : s.ph = .run) : step s = thenTick (microStep s) := by
  simp [step, event, h, State.busy, hi]

theorem run_succ (k : Nat) {s t : State} (h : step s = .next t) :
    Host.Core.run Sys2Proof.core (k + 1) s = Host.Core.run Sys2Proof.core k t := by
  simp only [Host.Core.run]
  rw [show core.step s = _ from h]

theorem run_add (j k : Nat) {s t : State} (h : Host.Core.run Sys2Proof.core j s = .next t) :
    Host.Core.run Sys2Proof.core (j + k) s = Host.Core.run Sys2Proof.core k t := by
  induction j generalizing s with
  | zero => cases h; simp
  | succ j ih =>
    rw [show j + 1 + k = (j + k) + 1 by omega]
    simp only [Host.Core.run] at h ⊢
    cases hs : core.step s with
    | next u => simp only [hs] at h ⊢; exact ih h
    | fault r => rw [hs] at h; cases h
    | refused r => rw [hs] at h; cases h

/-- The state n rounds after a block was started, if the host did not reset. -/
def State.afterRounds (s : State) (n : Nat) : State :=
  { s with wv := rounds s.x s.ds n, rc := BitVec.ofNat 7 n, inputs := s.inputs.drop n, draw := s.draw + n }

/-- A host that does not reset in its next n steps leaves the pins of step m < n without reset. -/
theorem reset_drop {n m : Nat} {l : List Pins} (h : ∀ q ∈ l.take n, q.reset = false) (hm : m < n) :
    ((l.drop m).headD Pins.quiet).reset = false := by
  cases e : l.drop m with
  | nil => rfl
  | cons q r =>
    apply h
    have hq : q ∈ (l.take n).drop m := by
      obtain ⟨j, hj⟩ : ∃ j, n - m = j + 1 := ⟨n - m - 1, by omega⟩
      rw [List.drop_take, e, hj, List.take_succ_cons]
      exact List.mem_cons_self
    exact List.mem_of_mem_drop hq

/-- One round micro-step from the state after m rounds gives the state after m + 1 (43_digest_engine.md R113). -/
theorem step_afterRounds {s : State} {m : Nat} (hp : s.ph = .run) (hm : m < 64)
    (hq : ((s.inputs.drop m).headD Pins.quiet).reset = false) :
    step (s.afterRounds m) = .next (s.afterRounds (m + 1)) := by
  rw [step_run _ (by exact hq) (by exact hp)]
  have hc : (s.afterRounds m).rc.toNat = m := by simp [State.afterRounds]; omega
  have he : (s.afterRounds m).roundIndex = BitVec.ofNat 6 m := by
    apply BitVec.eq_of_toNat_eq
    simp [State.roundIndex, BitVec.extractLsb', hc]
  simp only [microStep, hc, show m ≤ 63 by omega, if_true, exec_decodeRound, thenTick, he]
  congr 1
  simp only [roundMicroStep, State.tick, State.afterRounds, rounds, State.mk.injEq, true_and]
  refine ⟨?_, ?_, by omega⟩
  · apply BitVec.eq_of_toNat_eq; simp
  · simp

/-- A block that was just started is `afterRounds m` after m steps, for every m up to 64 (43_digest_engine.md R113). -/
theorem run_rounds {s : State} (hp : s.ph = .run) (hw : s.wv = s.ds) (hc : s.rc = 0) {n : Nat} (hn : n ≤ 64)
    (hq : ∀ q ∈ s.inputs.take n, q.reset = false) :
    ∀ m ≤ n, Host.Core.run Sys2Proof.core m s = .next (s.afterRounds m) := by
  intro m
  induction m with
  | zero =>
    intro _
    simp only [Host.Core.run, State.afterRounds, rounds]
    cases s
    simp_all
  | succ m ih =>
    intro hm
    rw [run_add m 1 (ih (by omega)), run_succ 0 (step_afterRounds hp (by omega) (reset_drop hq hm))]
    rfl

end Sys2Proof.Machine
end

