-- ==== Sys2Proof/Laws/Decode.lean ====
section
/-! SUPPORT. The fields of a command word as numbers (30_encoding.md R55), and what decodes to what. -/

namespace Sys2Proof

theorem cmdOp_toNat (w : BitVec 16) : (cmdOp w).toNat = w.toNat % 8 := by simp [cmdOp, BitVec.extractLsb']

theorem cmdK_toNat (w : BitVec 16) : (cmdK w).toNat = w.toNat / 8 % 64 := by
  simp [cmdK, BitVec.extractLsb', Nat.shiftRight_eq_div_pow]

theorem cmdRsv_toNat (w : BitVec 16) : (cmdRsv w).toNat = w.toNat / 512 := by
  simp [cmdRsv, BitVec.extractLsb', Nat.shiftRight_eq_div_pow]; omega

theorem cmdWord_toNat (k : BitVec 6) (op : BitVec 3) : (cmdWord k op).toNat = k.toNat * 8 + op.toNat := by
  have hk := k.isLt
  have ho := op.isLt
  simp only [cmdWord, BitVec.toNat_append, Nat.shiftLeft_eq]
  rw [Nat.mul_comm (_ ||| _), ← Nat.two_pow_add_eq_or_of_lt ho]
  simp
  omega

theorem decodeCmd_finalWord (k : BitVec 6) : decodeCmd (cmdWord k 3#3) = .legal (.final k) := by
  revert k; decide

/-- A word with RSV = 0 is the word of its K and OP. -/
theorem cmdWord_of_rsv {w : BitVec 16} (h : cmdRsv w = 0) : w = cmdWord (cmdK w) (cmdOp w) := by
  have hr := cmdRsv_toNat w
  rw [h] at hr
  change 0 = _ at hr
  apply BitVec.eq_of_toNat_eq
  rw [cmdWord_toNat, cmdK_toNat, cmdOp_toNat]
  omega

/-- The word of a command (30_encoding.md R59). -/
def commandWord : Command → BitVec 16
  | .nop => cmdWord 0 0
  | .init => cmdWord 0 1
  | .absorb => cmdWord 0 2
  | .final k => cmdWord k 3

/-- A legal word is the word of its command. -/
theorem eq_of_decodeCmd_legal {w : BitVec 16} {c : Command} (h : decodeCmd w = .legal c) : w = commandWord c := by
  unfold decodeCmd at h
  split_ifs at h with hop hrsv hk h0 h1 h2 <;> cases h
  all_goals
    have hw := cmdWord_of_rsv (w := w) (by simpa using hrsv)
    have hk' : cmdOp w ≠ 3 → cmdK w = 0 := fun h3 => Decidable.not_not.mp fun h => hk ⟨h3, h⟩
  · rwa [h0, hk' (by rw [h0]; decide)] at hw
  · rwa [h1, hk' (by rw [h1]; decide)] at hw
  · rwa [h2, hk' (by rw [h2]; decide)] at hw
  · have h3 : cmdOp w = 3 := by
      revert hop h0 h1 h2
      generalize cmdOp w = op
      revert op
      decide
    rwa [h3] at hw

end Sys2Proof
end

