-- ==== Sys2Proof/Laws/Padding.lean ====
section
/-! SUPPORT. The lengths of the byte sequences that the padding and the ports build. -/

namespace Sys2Proof.Machine

@[simp] theorem le32_length (v : Word) : (le32 v).length = 4 := rfl

@[simp] theorem zeros_length (z : Nat) : (zeros z).length = z := by simp [zeros]

@[simp] theorem lengthField_length (l : Word) : (lengthField l).length = 8 := by simp [lengthField]

@[simp] theorem dinLanes_length (din : BitVec 512) (k : Nat) : (dinLanes din k).length = k := by simp [dinLanes]

@[simp] theorem dinBlock_length (din : BitVec 512) : (dinBlock din).length = 64 := by simp [dinBlock]

/-- The number of zero bytes of `pad` depends on the length modulo 64 alone (42_padding_decoder.md R90, R96). -/
theorem padZeros_eq (n : Nat) : padZeros n = (119 - n % 64) % 64 := by
  unfold padZeros; omega

end Sys2Proof.Machine
end

