-- ==== Sys2Proof/Laws/PerInstr.lean ====
section
/-! SUPPORT. Facts about every instruction as syntax, one lemma per constructor. -/

namespace Sys2Proof.Laws.EncodedWidth

/-- The code of an instruction has the width of its format: a round index stands below 64 (30_encoding.md R62), and a
command word leaves RSV zero, so it stands below 512 (R58). -/
def Statement (i : Instr) : Prop :=
  match encode i with
  | .cmd16 w => w.toNat < 512
  | .round6 r => r.toNat < 64

theorem nop : Statement .nop := show (cmdWord 0 0).toNat < 512 from by decide
theorem init : Statement .init := show (cmdWord 0 1).toNat < 512 from by decide
theorem absorb : Statement .absorb := show (cmdWord 0 2).toNat < 512 from by decide
theorem final (k : BitVec 6) : Statement (.final k) :=
  show (0#7 ++ k ++ 3#3 : BitVec 16).toNat < 512 from by
    simp only [BitVec.toNat_append, Nat.shiftLeft_eq]
    have := k.isLt
    rw [Nat.mul_comm, ← Nat.two_pow_add_eq_or_of_lt (by decide)]
    simp
    omega
theorem rnd00F : Statement .rnd00F := BitVec.isLt _
theorem rnd01F : Statement .rnd01F := BitVec.isLt _
theorem rnd02F : Statement .rnd02F := BitVec.isLt _
theorem rnd03F : Statement .rnd03F := BitVec.isLt _
theorem rnd04F : Statement .rnd04F := BitVec.isLt _
theorem rnd05F : Statement .rnd05F := BitVec.isLt _
theorem rnd06F : Statement .rnd06F := BitVec.isLt _
theorem rnd07F : Statement .rnd07F := BitVec.isLt _
theorem rnd08F : Statement .rnd08F := BitVec.isLt _
theorem rnd09F : Statement .rnd09F := BitVec.isLt _
theorem rnd10F : Statement .rnd10F := BitVec.isLt _
theorem rnd11F : Statement .rnd11F := BitVec.isLt _
theorem rnd12F : Statement .rnd12F := BitVec.isLt _
theorem rnd13F : Statement .rnd13F := BitVec.isLt _
theorem rnd14F : Statement .rnd14F := BitVec.isLt _
theorem rnd15F : Statement .rnd15F := BitVec.isLt _
theorem rnd16G : Statement .rnd16G := BitVec.isLt _
theorem rnd17G : Statement .rnd17G := BitVec.isLt _
theorem rnd18G : Statement .rnd18G := BitVec.isLt _
theorem rnd19G : Statement .rnd19G := BitVec.isLt _
theorem rnd20G : Statement .rnd20G := BitVec.isLt _
theorem rnd21G : Statement .rnd21G := BitVec.isLt _
theorem rnd22G : Statement .rnd22G := BitVec.isLt _
theorem rnd23G : Statement .rnd23G := BitVec.isLt _
theorem rnd24G : Statement .rnd24G := BitVec.isLt _
theorem rnd25G : Statement .rnd25G := BitVec.isLt _
theorem rnd26G : Statement .rnd26G := BitVec.isLt _
theorem rnd27G : Statement .rnd27G := BitVec.isLt _
theorem rnd28G : Statement .rnd28G := BitVec.isLt _
theorem rnd29G : Statement .rnd29G := BitVec.isLt _
theorem rnd30G : Statement .rnd30G := BitVec.isLt _
theorem rnd31G : Statement .rnd31G := BitVec.isLt _
theorem rnd32H : Statement .rnd32H := BitVec.isLt _
theorem rnd33H : Statement .rnd33H := BitVec.isLt _
theorem rnd34H : Statement .rnd34H := BitVec.isLt _
theorem rnd35H : Statement .rnd35H := BitVec.isLt _
theorem rnd36H : Statement .rnd36H := BitVec.isLt _
theorem rnd37H : Statement .rnd37H := BitVec.isLt _
theorem rnd38H : Statement .rnd38H := BitVec.isLt _
theorem rnd39H : Statement .rnd39H := BitVec.isLt _
theorem rnd40H : Statement .rnd40H := BitVec.isLt _
theorem rnd41H : Statement .rnd41H := BitVec.isLt _
theorem rnd42H : Statement .rnd42H := BitVec.isLt _
theorem rnd43H : Statement .rnd43H := BitVec.isLt _
theorem rnd44H : Statement .rnd44H := BitVec.isLt _
theorem rnd45H : Statement .rnd45H := BitVec.isLt _
theorem rnd46H : Statement .rnd46H := BitVec.isLt _
theorem rnd47H : Statement .rnd47H := BitVec.isLt _
theorem rnd48I : Statement .rnd48I := BitVec.isLt _
theorem rnd49I : Statement .rnd49I := BitVec.isLt _
theorem rnd50I : Statement .rnd50I := BitVec.isLt _
theorem rnd51I : Statement .rnd51I := BitVec.isLt _
theorem rnd52I : Statement .rnd52I := BitVec.isLt _
theorem rnd53I : Statement .rnd53I := BitVec.isLt _
theorem rnd54I : Statement .rnd54I := BitVec.isLt _
theorem rnd55I : Statement .rnd55I := BitVec.isLt _
theorem rnd56I : Statement .rnd56I := BitVec.isLt _
theorem rnd57I : Statement .rnd57I := BitVec.isLt _
theorem rnd58I : Statement .rnd58I := BitVec.isLt _
theorem rnd59I : Statement .rnd59I := BitVec.isLt _
theorem rnd60I : Statement .rnd60I := BitVec.isLt _
theorem rnd61I : Statement .rnd61I := BitVec.isLt _
theorem rnd62I : Statement .rnd62I := BitVec.isLt _
theorem rnd63I : Statement .rnd63I := BitVec.isLt _

end Sys2Proof.Laws.EncodedWidth
end

