-- ==== Sys2Proof/Tests/Slice0.lean ====
section
/-! SUPPORT. Tests whose expected values come from spec/95_test_vectors.md or are written out from the rules, the smoke
test of the well-formedness check, and one witness for the hypotheses of each statement that has some. -/

namespace Sys2Proof.Tests

open Sys2Proof.Machine

/-! ### Well-formed codes -/

/-- Each CMD16 row has an ill-formed neighbour, and the check refuses it: K under NOP, INIT and ABSORB, RSV under FINAL,
the reserved opcodes (V13). -/
theorem test_wf_refuses :
    Code.wf (.cmd16 0x0008) = false ∧ Code.wf (.cmd16 0x0009) = false ∧ Code.wf (.cmd16 0x000A) = false ∧
    Code.wf (.cmd16 0x0203) = false ∧ Code.wf (.cmd16 0x8003) = false ∧ Code.wf (.cmd16 0x0004) = false ∧
    Code.wf (.cmd16 0x0007) = false ∧ Code.wf (.cmd16 0xFFFF) = false := by decide

theorem test_wf_accepts :
    Code.wf (.cmd16 0x0000) = true ∧ Code.wf (.cmd16 0x0001) = true ∧ Code.wf (.cmd16 0x0002) = true ∧
    Code.wf (.cmd16 0x0003) = true ∧ Code.wf (.cmd16 0x01FB) = true ∧ Code.wf (.round6 63) = true := by decide

/-! ### Decoding: words written bit by bit from RSV, K, OP (30_encoding.md R55), and r (R62) -/

theorem test_decode_nop : decode (.cmd16 0b0000000_000000_000) = .ok .nop := by decide
theorem test_decode_init : decode (.cmd16 0b0000000_000000_001) = .ok .init := by decide
theorem test_decode_absorb : decode (.cmd16 0b0000000_000000_010) = .ok .absorb := by decide

/-- FINAL with k = 0, 3, 14, 56, 63 (V13). -/
theorem test_decode_final :
    decode (.cmd16 0b0000000_000000_011) = .ok (.final 0) ∧ decode (.cmd16 0b0000000_000011_011) = .ok (.final 3) ∧
    decode (.cmd16 0b0000000_001110_011) = .ok (.final 14) ∧ decode (.cmd16 0b0000000_111000_011) = .ok (.final 56) ∧
    decode (.cmd16 0b0000000_111111_011) = .ok (.final 63) := by decide

/-- The illegal words of V13, each with its cause. -/
theorem test_decode_illegal :
    [(0x0004, CmdError.rsvdOp), (0x0007, .rsvdOp), (0xFFFF, .rsvdOp), (0x0008, .rsvdField), (0x0009, .rsvdField),
      (0x000A, .rsvdField), (0x0200, .rsvdField), (0x0203, .rsvdField), (0x8003, .rsvdField)].all
      (fun p => decode (.cmd16 p.1) == .error p.2) = true := by decide

theorem test_decode_rounds_f :
    [0b00_0000, 0b00_0001, 0b00_0010, 0b00_0011, 0b00_0100, 0b00_0101, 0b00_0110, 0b00_0111,
      0b00_1000, 0b00_1001, 0b00_1010, 0b00_1011, 0b00_1100, 0b00_1101, 0b00_1110, 0b00_1111].map decodeRound =
    [.rnd00F, .rnd01F, .rnd02F, .rnd03F, .rnd04F, .rnd05F, .rnd06F, .rnd07F,
      .rnd08F, .rnd09F, .rnd10F, .rnd11F, .rnd12F, .rnd13F, .rnd14F, .rnd15F] := by decide

theorem test_decode_rounds_g :
    [0b01_0000, 0b01_0001, 0b01_0010, 0b01_0011, 0b01_0100, 0b01_0101, 0b01_0110, 0b01_0111,
      0b01_1000, 0b01_1001, 0b01_1010, 0b01_1011, 0b01_1100, 0b01_1101, 0b01_1110, 0b01_1111].map decodeRound =
    [.rnd16G, .rnd17G, .rnd18G, .rnd19G, .rnd20G, .rnd21G, .rnd22G, .rnd23G,
      .rnd24G, .rnd25G, .rnd26G, .rnd27G, .rnd28G, .rnd29G, .rnd30G, .rnd31G] := by decide

theorem test_decode_rounds_h :
    [0b10_0000, 0b10_0001, 0b10_0010, 0b10_0011, 0b10_0100, 0b10_0101, 0b10_0110, 0b10_0111,
      0b10_1000, 0b10_1001, 0b10_1010, 0b10_1011, 0b10_1100, 0b10_1101, 0b10_1110, 0b10_1111].map decodeRound =
    [.rnd32H, .rnd33H, .rnd34H, .rnd35H, .rnd36H, .rnd37H, .rnd38H, .rnd39H,
      .rnd40H, .rnd41H, .rnd42H, .rnd43H, .rnd44H, .rnd45H, .rnd46H, .rnd47H] := by decide

theorem test_decode_rounds_i :
    [0b11_0000, 0b11_0001, 0b11_0010, 0b11_0011, 0b11_0100, 0b11_0101, 0b11_0110, 0b11_0111,
      0b11_1000, 0b11_1001, 0b11_1010, 0b11_1011, 0b11_1100, 0b11_1101, 0b11_1110, 0b11_1111].map decodeRound =
    [.rnd48I, .rnd49I, .rnd50I, .rnd51I, .rnd52I, .rnd53I, .rnd54I, .rnd55I,
      .rnd56I, .rnd57I, .rnd58I, .rnd59I, .rnd60I, .rnd61I, .rnd62I, .rnd63I] := by decide

/-- The words of W2 and of 30_encoding.md R59. -/
theorem test_encode_words :
    encode .init = .cmd16 0x0001 ∧ encode .absorb = .cmd16 0x0002 ∧ encode (.final 3) = .cmd16 0x001B ∧
    encode (.final 14) = .cmd16 0x0073 ∧ encode (.final 63) = .cmd16 0x01FB ∧ encode .rnd17G = .round6 0x11 := by decide

theorem test_table_word :
    decodeTableWord 16 0x001B = some (.final 3) ∧ decodeTableWord 16 0x0203 = none ∧
    decodeTableWord 8 0x29 = some .rnd41H ∧ decodeTableWord 6 0x29 = some .rnd41H ∧ decodeTableWord 8 0x40 = none := by
  decide

/-! ### Arithmetic -/

theorem test_add32 :
    add32 0xffffffff 1 = 0 ∧ add32 0x80000000 0x80000000 = 0 ∧ add32 0x12345678 0x9abcdef0 = 0xacf13568 ∧
    add32 0xffffffff 0xffffffff = 0xfffffffe := by decide

theorem test_rotl :
    rotl 0x80000001 1 = 3 ∧ rotl 0x12345678 0 = 0x12345678 ∧ rotl 0x80000000 7 = 0x40 ∧
    rotl 0xdeadbeef 23 = 0x77ef56df ∧ rotl 0x12345678 31 = 0x091a2b3c := by decide

theorem test_logic :
    not32 0x0f0f0f0f = 0xf0f0f0f0 ∧ and32 0x0f0f0f0f 0x00ff00ff = 0x000f000f ∧
    or32 0x0f0f0f0f 0x00ff00ff = 0x0fff0fff ∧ xor32 0x0f0f0f0f 0x00ff00ff = 0x0ff00ff0 := by decide

/-- The third row of V4, which tells the four functions and the order of their arguments apart. -/
theorem test_mixing :
    fF 0x0f0f0f0f 0x00ff00ff 0x33333333 = 0x303f303f ∧ fG 0x0f0f0f0f 0x00ff00ff 0x33333333 = 0x03cf03cf ∧
    fH 0x0f0f0f0f 0x00ff00ff 0x33333333 = 0x3cc33cc3 ∧ fI 0x0f0f0f0f 0x00ff00ff 0x33333333 = 0xcf30cf30 := by decide

theorem test_cmn :
    cmn 0 0 0 0 7 0 = 0 ∧ cmn 0xffffffff 1 5 0 4 0 = 5 ∧ cmn 1 2 3 4 1 5 = 0x1b := by decide

/-! ### Padding, blocks and the ports -/

/-- n bytes 0x61. -/
def letters (n : Nat) : List Byte := List.replicate n 0x61

theorem test_decode_block :
    (List.range 5).map (blockWord [0x61, 0x62, 0x63, 0x80, 0x18, 0, 0, 0, 0, 0, 0, 0x80, 0x61, 0x61, 0x61, 0x61, 0xff, 0, 0, 0])
      = [0x80636261, 0x18, 0x80000000, 0x61616161, 0xff] := by decide

/-- The words after V10: TB1 of 55 bytes, TB1 and TB2 of 56 bytes. -/
theorem test_tail_words :
    (decodeBlock (tb1 (letters 55) 0x1b8))[13] = 0x80616161 ∧ (decodeBlock (tb1 (letters 55) 0x1b8))[14] = 0x1b8 ∧
    (decodeBlock (tb1 (letters 56) 0x1c0))[13] = 0x61616161 ∧ (decodeBlock (tb1 (letters 56) 0x1c0))[14] = 0x80 ∧
    (decodeBlock (tb2 0x1c0))[14] = 0x1c0 := by decide

/-- The padded lengths and tail counts of V14 at 55, 56 and 64 bytes. -/
theorem test_pad_lengths :
    (pad (letters 55)).length = 64 ∧ (pad (letters 56)).length = 128 ∧ (pad (letters 64)).length = 128 ∧
    (tails (letters 55) 0).length = 1 ∧ (tails (letters 56) 0).length = 2 := by decide +kernel

/-- V11: lengths that differ by 2^29 bytes have one length field. -/
theorem test_bit_length : bitLength 3 = 0x18 ∧ bitLength (2 ^ 29 - 1) = 0xfffffff8 ∧ bitLength (2 ^ 29 + 3) = 0x18 := by decide

/-- The last row of V12. -/
theorem test_hex_lanes :
    (hexView ⟨0x0000000a, 0, 0, 0xffffffff⟩).extractLsb' 0 8 = 0x30 ∧
    (hexView ⟨0x0000000a, 0, 0, 0xffffffff⟩).extractLsb' 8 8 = 0x61 ∧
    (hexView ⟨0x0000000a, 0, 0, 0xffffffff⟩).extractLsb' 248 8 = 0x66 := by decide

theorem test_digest_bytes :
    digestBytes ⟨0x98500190, 0xb04fd23c, 0x7d3f96d6, 0x727fe128⟩ =
      [0x90, 0x01, 0x50, 0x98, 0x3c, 0xd2, 0x4f, 0xb0, 0xd6, 0x96, 0x3f, 0x7d, 0x28, 0xe1, 0x7f, 0x72] := by decide

/-! ### States the tests start from -/

/-- A running block at round counter rc. -/
def running (rc : BitVec 7) : State := { State.reset with ph := .run, fsm := .processing, rc := rc }

/-- A block with FSM = DONE and no error. -/
def done : State := { State.reset with fsm := .done, len := 24 }

/-- A block with an error recorded after DONE (P5, step 3). -/
def failed : State := { done with err := true, errCause := 3 }

/-- The host drives one set of pins. -/
def driven (p : Pins) (s : State) : State := { s with inputs := [p] }

/-- The host offers a word, with DIN all zero. -/
def offered (w : BitVec 16) (s : State) : State := driven ⟨false, true, w, 0⟩ s

/-- The host asserts reset. -/
def resetPins : Pins := ⟨true, false, 0, 0⟩

/-- The working values after a next state. -/
def wvOf : Host.Outcome State Fault Refusal → Option Quad
  | .next t => some t.wv
  | .fault _ => none
  | .refused _ => none

/-- What STATUS shows after a next state. -/
def statusOf : Host.Outcome State Fault Refusal → Option Byte
  | .next t => some t.status
  | .fault _ => none
  | .refused _ => none

/-- The "abc" block's words (V7), under chosen working values. -/
def abcAt (w : Quad) : State := { running 0 with x := decodeBlock (tb1 [0x61, 0x62, 0x63] 24), wv := w }

/-! ### Single steps -/

/-- V6 and V7: the first round of each function on the "abc" block. -/
theorem test_rnd00F :
    wvOf (exec .rnd00F (abcAt iv)) = some ⟨0x10325476, 0xd6d117b4, 0xefcdab89, 0x98badcfe⟩ := by decide
theorem test_rnd16G :
    wvOf (exec .rnd16G (abcAt ⟨0xdda9b9a6, 0x72aff2e0, 0xe396856b, 0xa1051895⟩)) =
      some ⟨0xa1051895, 0x3e9e9126, 0x72aff2e0, 0xe396856b⟩ := by decide
theorem test_rnd32H :
    wvOf (exec .rnd32H (abcAt ⟨0x790a77fb, 0x726342d3, 0xa62884aa, 0x9f47e4f8⟩)) =
      some ⟨0x9f47e4f8, 0xb3707ebf, 0x726342d3, 0xa62884aa⟩ := by decide
theorem test_rnd48I :
    wvOf (exec .rnd48I (abcAt ⟨0x7f2e507b, 0x7beb9700, 0x8fae6399, 0x99d9679d⟩)) =
      some ⟨0x99d9679d, 0x7b201df8, 0x7beb9700, 0x8fae6399⟩ := by decide

/-- V7, the last two rows: round 63. -/
theorem test_rnd63I :
    wvOf (exec .rnd63I (abcAt ⟨0x7327d604, 0xe484b9d8, 0x624d8cb2, 0x310ade8f⟩)) =
      some ⟨0x310ade8f, 0xc08226b3, 0xe484b9d8, 0x624d8cb2⟩ := by decide

/-- V15, one command each: NOP, the two illegal words, ABSORB and FINAL after DONE, INIT under an error. -/
theorem test_status_after_commands :
    statusOf (step (offered 0x0000 State.reset)) = some 0x00 ∧
    statusOf (step (offered 0x0005 State.reset)) = some 0x18 ∧
    statusOf (step (offered 0x0009 State.reset)) = some 0x28 ∧
    statusOf (step (offered 0x0002 done)) = some 0x3B ∧
    statusOf (step (offered 0x000B done)) = some 0x4B ∧
    statusOf (step (offered 0x000B failed)) = some 0x3B ∧
    statusOf (step (offered 0x0001 failed)) = some 0x00 ∧
    statusOf (step (driven resetPins failed)) = some 0x00 := by decide

/-- An accepted ABSORB sets BUSY, FSM = PROCESSING; an accepted FINAL sets BUSY, FSM = FINALIZING (R111, R112). -/
theorem test_status_while_busy :
    statusOf (step (offered 0x0002 State.reset)) = some 0x05 ∧
    statusOf (step (offered 0x01C3 State.reset)) = some 0x06 := by decide

/-- `withFetchWord` makes the next step run its instruction. -/
theorem test_fetch_runs :
    statusOf (step (State.reset.withFetchWord 16 0x0002)) = some 0x05 ∧
    wvOf (step ((abcAt iv).withFetchWord 8 0)) = some ⟨0x10325476, 0xd6d117b4, 0xefcdab89, 0x98badcfe⟩ ∧
    wvOf (step ((abcAt ⟨0x7327d604, 0xe484b9d8, 0x624d8cb2, 0x310ade8f⟩).withFetchWord 8 63)) =
      some ⟨0x310ade8f, 0xc08226b3, 0xe484b9d8, 0x624d8cb2⟩ := by decide

/-- The add-back of V7, and the end of the command. -/
theorem test_add_back :
    accumulate iv ⟨0x310ade8f, 0xc08226b3, 0xe484b9d8, 0x624d8cb2⟩ = ⟨0x98500190, 0xb04fd23c, 0x7d3f96d6, 0x727fe128⟩ ∧
    statusOf (step { running 64 with fin := true, fsm := .finalizing }) = some 0x03 ∧
    statusOf (step { running 64 with fin := true, fsm := .finalizing, tail2 := true }) = some 0x06 := by decide

/-- V8, row 1, and P1: one whole compression, and one whole FINAL. -/
theorem test_compress_zero :
    compress iv (Vector.replicate 16 0) = ⟨0x031f1dac, 0x6ea58ed0, 0x1fab67b7, 0x74317791⟩ := by decide +kernel
theorem test_transact_abc :
    transact 0x001B (packDin [0x61, 0x62, 0x63]) .initial =
      ⟨⟨0x98500190, 0xb04fd23c, 0x7d3f96d6, 0x727fe128⟩, .done, 24, false, 0⟩ := by decide +kernel

/-! ### The text of a command program (30_encoding.md R65, R66) -/

theorem test_parse_lines :
    parseLine "INIT" = some [.init] ∧ parseLine "FINAL 3, 616263 ; abc" = some [.final [0x61, 0x62, 0x63]] ∧
    parseLine "FINAL \"a;b\"" = some [.final [0x61, 0x3b, 0x62]] ∧ parseLine "FINAL 0" = some [.final []] ∧
    parseLine "FINAL 3, \"a,b\"" = some [.final [0x61, 0x2c, 0x62]] ∧
    parseLine ".word 0x0202" = some [.word 0x0202] ∧
    parseLine "DIGEST" = some [.init, .final [], .readHex] ∧ parseLine "DIGEST \"\"" = parseLine "DIGEST" ∧
    parseLine "DIGEST \"abc\"" = some [.init, .final [0x61, 0x62, 0x63], .readHex] := by decide

theorem test_parse_refuses :
    parseLine "FINAL 2, 616263" = none ∧ parseLine "FINAL 2, \"abc\"" = none ∧ parseLine "ABSORB 6162" = none ∧ parseLine ".word 0x02" = none ∧
    parseLine "HALT" = none := by decide

/-! ### Witnesses: for each statement with hypotheses, concrete values that meet all of them, at the edges of each clause -/

/-- CommandDecodeFollowsItsFields: op 4 and 7; RSV = 1 and 127 under op 0 and 3; K = 1 and 63 under op 0 and 2; each legal op. -/
theorem witness_command_fields :
    [0x0004, 0x0007, 0xFFFF, 0x0200, 0xFE03, 0x0008, 0x01FA, 0x0000, 0x0001, 0x0002, 0x01FB].map
      (fun w : BitVec 16 => (w.toNat % 8, w.toNat / 8 % 64, w.toNat / 512)) =
    [(4, 0, 0), (7, 0, 0), (7, 63, 127), (0, 0, 1), (3, 0, 127), (0, 1, 0), (2, 63, 0), (0, 0, 0), (1, 0, 0), (2, 0, 0),
      (3, 63, 0)] := by decide

/-- DecodeAndEncodeAgree, its second clause. -/
theorem witness_decoding_code : decode (.cmd16 0x01FB) = .ok (.final 63) ∧ decode (.round6 63) = .ok .rnd63I := by decide

/-- The statements about bit i < 32: RotateMovesEveryBit, LogicIsBitwise, and the four mixing functions, at i = 0 and 31. -/
theorem witness_bit_positions :
    0 < 32 ∧ 31 < 32 ∧ (rotl 1 31).getLsbD 31 = true ∧ (rotl 0x80000000 1).getLsbD 0 = true ∧
    (and32 0x80000001 0x80000001).getLsbD 31 = true ∧ (fF 0x80000000 0x80000000 0).getLsbD 31 = true ∧
    (fG 0x80000000 0 0x80000000).getLsbD 31 = true ∧ (fH 0x80000000 0 0).getLsbD 31 = true ∧
    (fI 0 0x80000000 0x80000000).getLsbD 31 = true := by decide

/-- RoundsFRunTheRoundStep and its three companions: a row of each list. -/
theorem witness_round_rows :
    (Instr.rnd15F, (15 : Fin 16), (22 : BitVec 5), (0x49b40821 : Word)) ∈
      [(Instr.rnd00F, (0 : Fin 16), (7 : BitVec 5), (0xd76aa478 : Word)), (.rnd15F, 15, 22, 0x49b40821)] ∧
    (Instr.rnd16G, (1 : Fin 16), (5 : BitVec 5), (0xf61e2562 : Word)) ∈ [(Instr.rnd16G, (1 : Fin 16), 5, 0xf61e2562)] ∧
    (Instr.rnd32H, (5 : Fin 16), (4 : BitVec 5), (0xfffa3942 : Word)) ∈ [(Instr.rnd32H, (5 : Fin 16), 4, 0xfffa3942)] ∧
    (Instr.rnd48I, (0 : Fin 16), (6 : BitVec 5), (0xf4292244 : Word)) ∈ [(Instr.rnd48I, (0 : Fin 16), 6, 0xf4292244)] := by
  decide

/-- DecodeBlockIsLittleEndianBijection: a block of 64 bytes, and the first and last byte of a word. -/
theorem witness_block :
    (letters 63 ++ [0x80]).length = 64 ∧ (decodeBlock (letters 63 ++ [0x80]))[15] = 0x80616161 ∧
    byteAt (letters 63 ++ [0x80]) (4 * 15 + 3) = 0x80 ∧ byteAt (letters 63 ++ [0x80]) (4 * 15) = 0x61 := by decide

/-- TailBlocksHoldRemainderTerminatorAndLength: remainders of 0, 55, 56 and 63 bytes, and a byte of each clause. -/
theorem witness_tail_bytes :
    (letters 0).length ≤ 63 ∧ (letters 63).length ≤ 63 ∧
    byteAt (tb1 (letters 0) 0x1b8) 0 = 0x80 ∧ byteAt (tb1 (letters 55) 0x1b8) 54 = 0x61 ∧
    byteAt (tb1 (letters 55) 0x1b8) 55 = 0x80 ∧ byteAt (tb1 (letters 55) 0x1b8) 56 = 0xb8 ∧
    byteAt (tb1 (letters 55) 0x1b8) 60 = 0 ∧ byteAt (tb1 (letters 56) 0x1c0) 56 = 0x80 ∧
    byteAt (tb1 (letters 56) 0x1c0) 57 = 0 ∧ byteAt (tb1 (letters 63) 0x1f8) 63 = 0x80 ∧
    byteAt (tb2 0x1f8) 55 = 0 ∧ byteAt (tb2 0x1f8) 57 = 0x01 ∧ byteAt (tb2 0x1f8) 63 = 0 := by decide

/-- TailBlockWordsAreAsListed and LengthFieldEndsTheLastBlock: a word before, at and after the terminator's word. -/
theorem witness_tail_words :
    (letters 63).length = 63 ∧ (15 : Fin 16).val = 63 / 4 ∧ (14 : Fin 16).val < 63 / 4 ∧ (letters 0).length = 0 ∧
    (0 : Fin 16).val = 0 / 4 ∧ 0 / 4 < (15 : Fin 16).val ∧
    (decodeBlock (tb1 (letters 63) 0x1f8))[15] = 0x80616161 ∧ (decodeBlock (tb1 (letters 63) 0x1f8))[14] = 0x61616161 ∧
    (decodeBlock (tb1 [] 0))[0] = 0x80 ∧ (decodeBlock (tb2 0x1f8))[14] = 0x1f8 := by decide

/-- FinalIgnoresTheLanesAboveK: two inputs that agree on lanes 0 to 2 and differ on lane 3. -/
theorem witness_ignored_lanes :
    (∀ j < (3 : BitVec 6).toNat, dinByte (packDin [1, 2, 3]) j = dinByte (packDin [1, 2, 3, 4]) j) ∧
    dinByte (packDin [1, 2, 3]) 3 ≠ dinByte (packDin [1, 2, 3, 4]) 3 := by decide +kernel

/-- AbsorbStartsItsBlock, FinalStartsItsFirstTailBlock. -/
theorem witness_absorb_and_final : State.reset.err = false ∧ State.reset.fsm ≠ .done := by decide

/-- AbsorbAndFinalAfterDoneAreErrors. -/
theorem witness_after_done : done.fsm = .done ∧ done.err = false := by decide

/-- NothingButInitActsWhileErrorStands: an error, and words just beside 0x0001. -/
theorem witness_error_stands : failed.err = true ∧ (0x0000 : BitVec 16) ≠ 0x0001 ∧ (0x0009 : BitVec 16) ≠ 0x0001 := by decide

/-- IllegalWordRecordsItsCauseAndNothingElse: op 4, op 7 with RSV; op 3 with RSV, op 2 with K. -/
theorem witness_illegal_words :
    [0x0004, 0xFFFF, 0x0203, 0x01FA].all (fun w : BitVec 16 =>
      !(offered w State.reset).pins.reset && (offered w State.reset).ph == .idle &&
        (offered w State.reset).pins.cmdValid && !(offered w State.reset).err && (offered w State.reset).pins.cmd == w) = true ∧
    [0x0004, 0xFFFF, 0x0203, 0x01FA].map (fun w : BitVec 16 => (w.toNat % 8, w.toNat / 8 % 64, w.toNat / 512)) =
      [(4, 0, 0), (7, 63, 127), (3, 0, 1), (2, 63, 0)] := by decide

/-- OnlyInitAndResetClearAnError: a reset, an INIT, and a NOP, each from an error. -/
theorem witness_error_steps :
    failed.err = true ∧ (∃ t, step (driven resetPins failed) = .next t) ∧ (∃ t, step (offered 0x0001 failed) = .next t) ∧
    ∃ t, step (offered 0x0000 failed) = .next t := ⟨by decide, ⟨_, rfl⟩, ⟨_, rfl⟩, ⟨_, rfl⟩⟩

/-- StepRunsTheAcceptedCommand, IllegalWord's guards, OnlyAbsorbAndFinalTakeTime: an idle block that accepts a legal word. -/
theorem witness_accepted_command :
    (offered 0x0002 State.reset).pins.reset = false ∧ (offered 0x0002 State.reset).ph = .idle ∧
    (offered 0x0002 State.reset).pins.cmdValid = true ∧
    decode (.cmd16 (offered 0x0002 State.reset).pins.cmd) = .ok .absorb ∧
    (offered 0x0001 State.reset).pins.cmd = 0x0001 ∧ (offered 0x0000 State.reset).pins.cmd = 0x0000 ∧
    ∃ t, exec .absorb (offered 0x0002 State.reset) = .next t :=
  ⟨by decide, by decide, by decide, by decide, by decide, by decide, ⟨_, rfl⟩⟩

/-- StepRunsTheRoundThatRcSelects, RoundMicroStepChangesOnlyWorkingValuesAndRc: RC = 0 and RC = 63. -/
theorem witness_running :
    [running 0, running 63].all (fun s => s.pins.reset == false && s.ph == .run && s.rc.toNat ≤ 63) = true ∧
    decode (.round6 (BitVec.ofNat 6 (running 63).rc.toNat)) = .ok .rnd63I ∧ ∃ t, exec .rnd63I (running 63) = .next t :=
  ⟨by decide, by decide, ⟨_, rfl⟩⟩

/-- AddBackEndsABlock: with a second tail block to come, and without. -/
theorem witness_add_back :
    (running 64).pins.reset = false ∧ (running 64).ph = .run ∧ (running 64).rc.toNat = 64 ∧
    (running 64).tail2 = false ∧ { running 64 with tail2 := true }.tail2 = true := by decide

/-- IdleBlockHoldsItsState. -/
theorem witness_idle : done.pins.reset = false ∧ done.ph = .idle ∧ done.pins.cmdValid = false := by decide

/-- BusyBlockIgnoresWhatTheHostOffers: a running block and two hosts. -/
theorem witness_busy :
    (running 7).ph = .run ∧ Pins.quiet.reset = false ∧ (⟨false, true, 0x0001, 5⟩ : Pins).reset = false ∧
    (⟨false, true, 0x0001, 5⟩ : Pins) ≠ Pins.quiet := by decide

/-- RcOutOfRangeStops: RC = 65 and RC = 127. -/
theorem witness_rc_out_of_range :
    [running 65, running 127].all (fun s => s.pins.reset == false && s.ph == .run && 64 < s.rc.toNat) = true := by decide

/-- ResetFromAnyStateGivesTheResetState: a running block. -/
theorem witness_reset : (driven resetPins (running 30)).pins.reset = true := by decide

/-- EveryStepKeepsTheInvariant, InvariantStatesNeverStop, the last clause of StatusShowsItsFields: an idle block, a failed
one, and running ones. -/
theorem witness_invariant :
    done.Inv ∧ failed.Inv ∧ (running 0).Inv ∧ (running 64).Inv ∧
    (∃ t, step (offered 0x0002 done) = .next t) ∧ ∃ t, step (running 64) = .next t :=
  ⟨by decide, by decide, by decide, by decide, ⟨_, rfl⟩, ⟨_, rfl⟩⟩

/-- DsIsWrittenByThreeEventsOnly: a step of each kind. -/
theorem witness_ds_steps :
    (∃ t, step (driven resetPins done) = .next t) ∧ (∃ t, step (offered 0x0001 done) = .next t) ∧
    (∃ t, step (running 64) = .next t) ∧ ∃ t, step (running 63) = .next t := ⟨⟨_, rfl⟩, ⟨_, rfl⟩, ⟨_, rfl⟩, ⟨_, rfl⟩⟩

/-- HiddenRegistersNeverMatterBetweenCommands: two different states that are alike, and their steps. -/
theorem witness_alike :
    done.Alike { done with rc := 9, fin := true, wv := iv } ∧ done ≠ { done with rc := 9, fin := true, wv := iv } ∧
    (∃ t, step (offered 0x0002 done) = .next t) ∧ step (running 65) = .fault .rcOutOfRange :=
  ⟨by decide, by decide, ⟨_, rfl⟩, by rfl⟩

/-- TransitionsFollowTheirTable: both kinds of FSM, each word, k = 0 and 63, an illegal word of each cause. -/
theorem witness_transitions :
    State.reset.arch.err = false ∧ State.reset.arch.fsm ≠ .done ∧ done.arch.err = false ∧ done.arch.fsm = .done ∧
    (0x0003 : BitVec 16) = cmdWord 0 3 ∧ (0x01FB : BitVec 16) = cmdWord 63 3 ∧
    decodeCmd 0x0004 = .illegal .rsvdOp ∧ decodeCmd 0x0008 = .illegal .rsvdField := by decide

/-- DatapathAgreesWithTheTransactionLevel: an accepted ABSORB (65 micro-steps), FINAL (130) and illegal word (0). -/
theorem witness_datapath :
    State.reset.ph = .idle ∧ microSteps 0x0002 State.reset.arch = 65 ∧ microSteps 0x01C3 State.reset.arch = 130 ∧
    microSteps 0x0004 State.reset.arch = 0 ∧ (offered 0x0002 State.reset).inputs = ⟨false, true, 0x0002, 0⟩ :: [] ∧
    (∀ q ∈ ([] : List Pins).take 130, q.reset = false) :=
  ⟨by decide, by decide, by decide, by decide, rfl, by decide⟩

/-- AbsorbsChainAndCountTheirBlocks: one block, and none. -/
theorem witness_absorbs :
    (∀ y ∈ [letters 64], y.length = 64) ∧ ∀ y ∈ ([] : List (List Byte)), y.length = 64 := by decide

/-- WaitingHostReadsTheMessageDigest, the last clause of ResultIsReadyExactlyWhenDone: an idle block. -/
theorem witness_waiting_host : failed.ph = .idle ∧ done.ph = .idle := by decide

/-- DoneKeepsItsDigest: a block in DONE that accepts an ABSORB, and one that is offered nothing. -/
theorem witness_done_keeps :
    (∃ t, step (offered 0x0002 done) = .next t) ∧ (offered 0x0002 done).ph = .idle ∧ (offered 0x0002 done).fsm = .done ∧
    (offered 0x0002 done).pins.reset = false ∧ (offered 0x0002 done).pins.cmd ≠ 0x0001 ∧ done.pins.cmdValid = false ∧
    ∃ t, step done = .next t := ⟨⟨_, rfl⟩, by decide, by decide, by decide, by decide, by decide, ⟨_, rfl⟩⟩

/-- DigestBytesAreLittleEndianInOrder, HexShowsEachByteHighNibbleFirst, HexIsAlways32LowercaseDigits: the last word, byte
and character. -/
theorem witness_port_lanes :
    byteAt (digestBytes iv) (4 * 3 + 3) = 0x10 ∧ (digestView iv).extractLsb' (8 * 15) 8 = 0x10 ∧
    byteAt (hexEncode iv) (2 * 15) = 0x31 ∧ (hexView iv).extractLsb' (8 * 31) 8 = 0x30 := by decide

/-- HostLinesCarryTheirWordsAndLanes: no byte, 63 and 64 bytes; the lane just before and just after the last byte. -/
theorem witness_host_lines :
    ([] : List Byte).length ≤ 63 ∧ (letters 63).length ≤ 63 ∧ (letters 64).length ≤ 64 ∧
    dinByte (packDin (letters 63)) 62 = 0x61 ∧ dinByte (packDin (letters 63)) 63 = 0 ∧
    dinByte (packDin (letters 64)) 63 = 0x61 := by decide +kernel

end Sys2Proof.Tests
end

section
/-! What an idle block does with a legal command, and the latencies (00_scope.md R8). -/

namespace Sys2Proof.Machine

theorem busy_eq_false_of_idle {s : State} (h : s.ph = .idle) : s.busy = false := by
  simp [State.busy, h]

/-- An idle block that is offered a legal word runs its command (43_digest_engine.md R104, R105). -/
theorem step_of_legal {s : State} {c : Command} (hr : s.pins.reset = false) (hi : s.ph = .idle)
    (hv : s.pins.cmdValid = true) (hc : decodeCmd s.pins.cmd = .legal c) :
    step s = thenTick (exec c.toInstr s) := by
  rw [step_idle s hr hi, hv, if_pos rfl, dispatch, hc]

/-- NOP and INIT leave PH as it was, so they complete in their acceptance step (43_digest_engine.md R106, R107). -/
theorem exec_keeps_ph_of_nop_or_init {c : Command} (hc : c = .nop ∨ c = .init) (s : State) :
    ∃ t, exec c.toInstr s = .next t ∧ t.ph = s.ph := by
  obtain rfl | rfl := hc
  · exact ⟨s, exec_command .nop s, rfl⟩
  · exact ⟨_, exec_command .init s, rfl⟩

theorem latency_absorb_pos : 0 < latency .absorb := Config.latAbsorb.pos

theorem latency_final (k : BitVec 6) :
    latency (.final k) = if k.toNat ≤ 55 then (Config.latFinal1 : Nat) else (Config.latFinal2 : Nat) := rfl

/-- Both latencies of FINAL, with one tail block and with two, are positive (00_scope.md R8). -/
theorem latency_final_pos (k : BitVec 6) : 0 < latency (.final k) := by
  rw [latency_final]
  split
  · exact Config.latFinal1.pos
  · exact Config.latFinal2.pos

/-- A step that accepts a NOP or an INIT ends with BUSY = 0 (00_scope.md R8, 43_digest_engine.md R110). -/
theorem step_not_busy_of_nop_or_init {s : State} {c : Command} (hr : s.pins.reset = false) (hi : s.ph = .idle)
    (hv : s.pins.cmdValid = true) (hc : decodeCmd s.pins.cmd = .legal c) (hni : c = .nop ∨ c = .init) :
    ∃ t, step s = .next t ∧ t.busy = false := by
  obtain ⟨u, hu, hph⟩ := exec_keeps_ph_of_nop_or_init hni s
  refine ⟨u.tick, ?_, busy_eq_false_of_idle (hph.trans hi)⟩
  rw [step_of_legal hr hi hv hc, hu, thenTick]

/-- Settles O59: the latencies by their definition and the positivity of the parameters; BUSY because neither NOP nor
INIT touches PH. -/
theorem onlyAbsorbAndFinalTakeTime : Obligations.OnlyAbsorbAndFinalTakeTime := by
  refine ⟨rfl, rfl, rfl, latency_final, latency_absorb_pos, latency_final_pos, fun s hr hi hv hw => ?_⟩
  obtain hw | hw := hw
  · have hd : decodeCmd s.pins.cmd = .legal .nop := by rw [hw]; decide
    exact step_not_busy_of_nop_or_init hr hi hv hd (.inl rfl)
  · have hd : decodeCmd s.pins.cmd = .legal .init := by rw [hw]; decide
    exact step_not_busy_of_nop_or_init hr hi hv hd (.inr rfl)

end Sys2Proof.Machine
end

section
/-! The invariant of the machine: each operation that a step performs keeps it (10_state.md R20, R22, R23, R25;
60_exceptions.md R128; 70_reset_and_hazards.md R146). -/

namespace Sys2Proof.Machine

theorem busy_iff_run (s : State) : s.busy = true ↔ s.ph = .run := by
  simp [State.busy]

theorem busy_eq_false_iff_idle (s : State) : s.busy = false ↔ s.ph = .idle := by
  cases h : s.ph <;> simp [State.busy, h]

theorem errorCode_ne_zero (e : CmdError) : e.code ≠ 0 := by cases e <;> decide

theorem errorCode_toNat_le_four (e : CmdError) : e.code.toNat ≤ 4 := by cases e <;> decide

/-- LEN wraps at 2^32, so its remainders by the divisors of 2^32 are those of the true sum (10_state.md R23). -/
theorem addLen_len_mod {m : Nat} (hm : m ∣ 2 ^ 32) (n : Nat) (s : State) :
    (addLen n s).len.toNat % m = (s.len.toNat + n) % m := by
  rw [addLen_len, BitVec.toNat_ofNat, Nat.mod_mod, Nat.mod_mod_of_dvd _ hm]

/-- Settles O43: every register of the reset state is a literal. -/
theorem invariantHoldsAtReset : Obligations.InvariantHoldsAtReset := by
  unfold Obligations.InvariantHoldsAtReset
  decide

/-- The host's pins and the counter of free values are no part of the invariant. -/
theorem tick_inv {s : State} (h : s.Inv) : s.tick.Inv := h

/-- A state with the registers of INIT meets the invariant once it is idle (43_digest_engine.md R107;
70_reset_and_hazards.md R143). -/
theorem inv_of_initial {s : State} (ha : s.arch = .initial) (hi : s.ph = .idle) : s.Inv := by
  obtain ⟨hds, hfsm, hlen, herr, hcause⟩ : s.ds = iv ∧ s.fsm = .init ∧ s.len = 0 ∧ s.err = false ∧ s.errCause = 0 := by
    simpa [State.arch, Arch.initial] using ha
  simp [State.Inv, State.CauseWf, State.RunWf, State.IdleWf, State.InitWf, State.LenWf, *]

theorem resetEvent_inv (s : State) : (resetEvent s).Inv := inv_of_initial rfl rfl

theorem initCommand_inv {s : State} (hi : s.ph = .idle) : (clearError (loadIv { s with len := 0, fsm := .init })).Inv :=
  inv_of_initial rfl hi

/-- Error entry in an idle block records a cause from 1 to 4, or none while one stands (60_exceptions.md R128, R133). -/
theorem raiseCmdError_inv {s : State} (e : CmdError) (h : s.Inv) (hi : s.ph = .idle) : (raiseCmdError e s).Inv := by
  cases he : s.err with
  | true => rwa [raiseCmdError_of_err e s he]
  | false =>
    obtain ⟨-, -, hidle, hinit, hlen⟩ := h
    refine ⟨⟨?_, ?_⟩, ?_, ?_, ?_, ?_⟩
    · simpa [he] using errorCode_ne_zero e
    · simpa [he] using errorCode_toNat_le_four e
    · simp [State.RunWf, hi]
    · simpa [State.IdleWf] using hidle
    · simpa [State.InitWf] using hinit
    · simpa [State.LenWf] using hlen

/-- A block begins with RC = 0, so it meets the invariant if FIN, TAIL2 and FSM agree (43_digest_engine.md R111, R112, R114). -/
theorem startBlock_inv {s : State} (y : List Byte) (hcause : s.CauseWf) (herr : s.err = false)
    (htail : s.tail2 = true → s.fin = true) (hfsm : s.fsm = if s.fin then .finalizing else .processing)
    (hlen : s.LenWf) : (startBlock y s).Inv := by
  refine ⟨hcause, fun _ => ⟨Nat.zero_le 64, herr, htail, hfsm⟩, fun hidle => ?_, fun hinit => ?_, hlen⟩
  · cases hidle
  · rw [startBlock_fsm, hfsm] at hinit
    split at hinit <;> cases hinit

/-- While the message is absorbed LEN counts whole blocks: it is 0 in INIT (10_state.md R23; 70_reset_and_hazards.md R146). -/
theorem len_mod_block_of_inv {s : State} (h : s.Inv) (hi : s.ph = .idle) (hd : s.fsm ≠ .done) :
    s.len.toNat % 512 = 0 := by
  obtain ⟨-, -, hidle, hinit, -, hblocks⟩ := h
  cases hf : s.fsm with
  | init => simp [(hinit hf).2]
  | processing => exact hblocks hf
  | finalizing => exact absurd hf (hidle hi)
  | done => exact absurd hf hd

theorem acceptAbsorb_inv {s : State} (h : s.Inv) (hi : s.ph = .idle) (he : s.err = false) (hd : s.fsm ≠ .done) :
    (acceptAbsorb s).Inv := by
  have hlen := len_mod_block_of_inv h hi hd
  obtain ⟨hcause, -⟩ := h
  refine startBlock_inv _ hcause he (by simp) (by simp) ⟨?_, fun _ => ?_⟩
  · rw [addLen_len_mod (by decide)]; simp; omega
  · rw [addLen_len_mod (by decide)]; simp; omega

theorem acceptFinal_inv {s : State} (k : BitVec 6) (h : s.Inv) (he : s.err = false) : (acceptFinal k s).Inv := by
  obtain ⟨hcause, -, -, -, hbytes, -⟩ := h
  refine startBlock_inv _ hcause he (by simp) (by simp) ⟨?_, fun hf => ?_⟩
  · rw [addLen_len_mod (by decide)]; simp; omega
  · cases hf

/-- Dispatch in an idle block keeps the invariant, whatever the word (43_digest_engine.md R105). -/
theorem dispatch_inv {w : BitVec 16} {s t : State} (h : s.Inv) (hi : s.ph = .idle) (hs : dispatch w s = .next t) :
    t.Inv := by
  obtain ⟨e, -, rfl⟩ | ⟨-, rfl⟩ | ⟨-, rfl⟩ | ⟨-, habsorb⟩ | ⟨k, -, hfinal⟩ := dispatch_cases hs
  · exact raiseCmdError_inv e h hi
  · exact h
  · exact initCommand_inv hi
  · obtain ⟨-, rfl⟩ | ⟨-, -, rfl⟩ | ⟨he, hd, rfl⟩ := habsorb
    · exact h
    · exact raiseCmdError_inv _ h hi
    · exact acceptAbsorb_inv h hi he hd
  · obtain ⟨-, rfl⟩ | ⟨-, -, rfl⟩ | ⟨he, -, rfl⟩ := hfinal
    · exact h
    · exact raiseCmdError_inv _ h hi
    · exact acceptFinal_inv k h he

theorem roundMicroStep_inv {s : State} (r : BitVec 6) (h : s.Inv) (hr : s.rc.toNat ≤ 63) : (roundMicroStep r s).Inv := by
  obtain ⟨hcause, hrun, hidle, hinit, hlen⟩ := h
  refine ⟨hcause, fun hp => ?_, hidle, hinit, hlen⟩
  obtain ⟨-, hrest⟩ := hrun hp
  have hrc : (s.rc + 1).toNat ≤ 64 := by bv_omega
  exact ⟨hrc, hrest⟩

/-- A command ends in PROCESSING or DONE (43_digest_engine.md R114; 10_state.md R22). -/
theorem finishCommand_inv {s : State} (hcause : s.CauseWf) (hfsm : s.fsm = if s.fin then .finalizing else .processing)
    (hlen : s.LenWf) : (finishCommand s).Inv := by
  have hend : (finishCommand s).fsm = if s.fin then .done else .processing := by
    rw [finishCommand_fsm, hfsm]
    split <;> rfl
  refine ⟨hcause, fun hrun => ?_, fun _ => ?_, fun hinit => ?_, hlen.1, fun hp => ?_⟩
  · cases hrun
  · rw [hend]
    split <;> simp
  · rw [hend] at hinit
    split at hinit <;> cases hinit
  · rw [hend] at hp
    split at hp
    · cases hp
    · exact hlen.2 (by simp [*])

/-- The add-back goes on to the second tail block, under FINAL, or ends the command (43_digest_engine.md R114). -/
theorem addBack_inv {s : State} (h : s.Inv) (hp : s.ph = .run) : (addBack s).Inv := by
  obtain ⟨hcause, hrun, -, -, hlen⟩ := h
  obtain ⟨-, herr, -, hfsm⟩ := hrun hp
  obtain ⟨-, heq⟩ | ⟨-, heq⟩ := addBack_cases s
  · rw [heq]
    exact startBlock_inv _ hcause herr (by simp) hfsm hlen
  · rw [heq]
    exact finishCommand_inv hcause hfsm hlen

theorem microStep_inv {s t : State} (h : s.Inv) (hp : s.ph = .run) (hs : microStep s = .next t) : t.Inv := by
  obtain ⟨hr, rfl⟩ | ⟨-, rfl⟩ := microStep_cases hs
  · exact roundMicroStep_inv _ h hr
  · exact addBack_inv h hp

/-- Settles O44: every event of a step keeps the invariant, and the host's next pins do not touch it. -/
theorem everyStepKeepsTheInvariant : Obligations.EveryStepKeepsTheInvariant := by
  intro s t h hs
  obtain ⟨u, rfl, hevent⟩ := step_cases hs
  refine tick_inv ?_
  obtain ⟨-, rfl⟩ | ⟨-, hb, hm⟩ | ⟨-, hb, -, hd⟩ | ⟨-, -, -, rfl⟩ := hevent
  · exact resetEvent_inv s
  · exact microStep_inv h ((busy_iff_run s).mp hb) hm
  · exact dispatch_inv h ((busy_eq_false_iff_idle s).mp hb) hd
  · exact h

end Sys2Proof.Machine
end

section
/-! Two states that are alike stay alike: the registers that are unspecified between commands are written before a
compression reads them (10_state.md R36). -/

namespace Sys2Proof.Machine

/-- Two outcomes are alike: next states that are alike, or the same stop. -/
inductive AlikeOutcome : Host.Outcome State Fault Refusal → Host.Outcome State Fault Refusal → Prop
  | next {s t : State} (h : s.Alike t) : AlikeOutcome (.next s) (.next t)
  | fault (r : Fault) : AlikeOutcome (.fault r) (.fault r)
  | refused (r : Refusal) : AlikeOutcome (.refused r) (.refused r)

theorem State.Alike.refl (s : State) : s.Alike s := ⟨rfl, rfl, rfl, rfl, fun _ => ⟨rfl, rfl, rfl, rfl, rfl⟩⟩

theorem AlikeOutcome.refl (o : Host.Outcome State Fault Refusal) : AlikeOutcome o o := by
  cases o with
  | next s => exact .next (State.Alike.refl s)
  | fault r => exact .fault r
  | refused r => exact .refused r

theorem arch_eq_iff (s t : State) :
    s.arch = t.arch ↔ s.ds = t.ds ∧ s.fsm = t.fsm ∧ s.len = t.len ∧ s.err = t.err ∧ s.errCause = t.errCause := by
  simp [State.arch]

/-- While a compression runs, alike states are equal: every register is specified then (10_state.md R36). -/
theorem eq_of_alike_of_run {s t : State} (h : s.Alike t) (hp : s.ph = .run) : s = t := by
  obtain ⟨harch, hph, hinputs, hdraw, hhidden⟩ := h
  have hspec := (arch_eq_iff s t).mp harch
  have hhidden := hhidden hp
  cases s; cases t
  simp_all

theorem alike_of_idle {s t : State} (harch : s.arch = t.arch) (hi : s.ph = .idle) (hph : s.ph = t.ph)
    (hinputs : s.inputs = t.inputs) (hdraw : s.draw = t.draw) : s.Alike t :=
  ⟨harch, hph, hinputs, hdraw, fun hp => by rw [hi] at hp; cases hp⟩

theorem pins_eq_of_alike {s t : State} (h : s.Alike t) : s.pins = t.pins := by
  obtain ⟨-, -, hinputs, -⟩ := h
  simp [State.pins, hinputs]

theorem busy_eq_of_alike {s t : State} (h : s.Alike t) : s.busy = t.busy := by
  obtain ⟨-, hph, -⟩ := h
  simp [State.busy, hph]

/-- No output port shows a hidden register (10_state.md R29, R30, R31). -/
theorem ports_eq_of_alike {s t : State} (h : s.Alike t) :
    s.status = t.status ∧ s.digestPort = t.digestPort ∧ s.hexPort = t.hexPort := by
  have hb := busy_eq_of_alike h
  obtain ⟨harch, -, -, hdraw, -⟩ := h
  obtain ⟨hds, hfsm, -, herr, hcause⟩ := (arch_eq_iff s t).mp harch
  simp [State.status, State.digestPort, State.hexPort, *]

/-- A reset gives every hidden register a free value, which depends on the draw counter alone (log entry 6). -/
theorem resetEvent_eq_of_alike {s t : State} (h : s.Alike t) : resetEvent s = resetEvent t := by
  obtain ⟨-, -, hinputs, hdraw, -⟩ := h
  simp [resetEvent, freeHidden, clearError, loadIv, hinputs, hdraw]

/-- ABSORB writes every hidden register in its acceptance step (43_digest_engine.md R111). -/
theorem acceptAbsorb_eq_of_alike {s t : State} (h : s.Alike t) : acceptAbsorb s = acceptAbsorb t := by
  have hpins := pins_eq_of_alike h
  obtain ⟨harch, -, hinputs, hdraw, -⟩ := h
  obtain ⟨hds, -, hlen, herr, hcause⟩ := (arch_eq_iff s t).mp harch
  simp [acceptAbsorb, startBlock, addLen, *]

/-- FINAL writes every hidden register in its acceptance step (43_digest_engine.md R112). -/
theorem acceptFinal_eq_of_alike (k : BitVec 6) {s t : State} (h : s.Alike t) : acceptFinal k s = acceptFinal k t := by
  have hpins := pins_eq_of_alike h
  obtain ⟨harch, -, hinputs, hdraw, -⟩ := h
  obtain ⟨hds, -, hlen, herr, hcause⟩ := (arch_eq_iff s t).mp harch
  simp [acceptFinal, startBlock, addLen, *]

theorem raiseCmdError_alike (e : CmdError) {s t : State} (h : s.Alike t) (hi : s.ph = .idle) :
    (raiseCmdError e s).Alike (raiseCmdError e t) := by
  obtain ⟨harch, hph, hinputs, hdraw, -⟩ := h
  obtain ⟨hds, hfsm, hlen, herr, hcause⟩ := (arch_eq_iff s t).mp harch
  refine alike_of_idle ((arch_eq_iff _ _).mpr ?_) (by simpa using hi) (by simpa using hph) (by simpa using hinputs)
    (by simpa using hdraw)
  simp [*]

theorem initCommand_alike {s t : State} (h : s.Alike t) (hi : s.ph = .idle) :
    (clearError (loadIv { s with len := 0, fsm := .init })).Alike
      (clearError (loadIv { t with len := 0, fsm := .init })) := by
  obtain ⟨-, hph, hinputs, hdraw, -⟩ := h
  exact alike_of_idle rfl hi hph hinputs hdraw

/-- The checks of ABSORB and FINAL read ERR and FSM only, so alike states take the same branch (43_digest_engine.md R105). -/
theorem unlessError_done_alike {s t s₁ t₁ s₂ t₂ : State} (h : s.Alike t) (h₁ : s₁.Alike t₁) (h₂ : s₂.Alike t₂) :
    (unlessError s (if s.fsm = .done then s₁ else s₂)).Alike (unlessError t (if t.fsm = .done then t₁ else t₂)) := by
  obtain ⟨harch, -⟩ := id h
  obtain ⟨-, hfsm, -, herr, -⟩ := (arch_eq_iff s t).mp harch
  unfold unlessError
  rw [← herr, ← hfsm]
  split
  · exact h
  · split
    · exact h₁
    · exact h₂

theorem exec_command_alike (c : Command) {s t : State} (h : s.Alike t) (hi : s.ph = .idle) :
    AlikeOutcome (exec c.toInstr s) (exec c.toInstr t) := by
  rw [exec_command, exec_command]
  refine .next ?_
  cases c with
  | nop => exact h
  | init => exact initCommand_alike h hi
  | absorb =>
    exact unlessError_done_alike h (raiseCmdError_alike _ h hi) (acceptAbsorb_eq_of_alike h ▸ State.Alike.refl _)
  | final k =>
    exact unlessError_done_alike h (raiseCmdError_alike _ h hi) (acceptFinal_eq_of_alike k h ▸ State.Alike.refl _)

theorem dispatch_alike (w : BitVec 16) {s t : State} (h : s.Alike t) (hi : s.ph = .idle) :
    AlikeOutcome (dispatch w s) (dispatch w t) := by
  unfold dispatch
  cases decodeCmd w with
  | legal c => exact exec_command_alike c h hi
  | illegal e => exact .next <| raiseCmdError_alike e h hi

theorem tick_alike {s t : State} (h : s.Alike t) : s.tick.Alike t.tick := by
  obtain ⟨harch, hph, hinputs, hdraw, hhidden⟩ := h
  exact ⟨harch, hph, congrArg List.tail hinputs, congrArg (· + 1) hdraw, hhidden⟩

theorem thenTick_alike {o o' : Host.Outcome State Fault Refusal} (h : AlikeOutcome o o') :
    AlikeOutcome (thenTick o) (thenTick o') := by
  cases h with
  | next h => exact .next (tick_alike h)
  | fault r => exact .fault r
  | refused r => exact .refused r

/-- Alike states step alike: by a reset to equal states, while running because they are equal, and while idle because
no command reads a hidden register. -/
theorem step_alike {s t : State} (h : s.Alike t) : AlikeOutcome (step s) (step t) := by
  have hpins := pins_eq_of_alike h
  obtain ⟨-, hph, -⟩ := id h
  cases hr : s.pins.reset with
  | true =>
    rw [step_reset s hr, step_reset t (hpins ▸ hr), resetEvent_eq_of_alike h]
    exact AlikeOutcome.refl _
  | false =>
    cases hp : s.ph with
    | run => exact eq_of_alike_of_run h hp ▸ AlikeOutcome.refl _
    | idle =>
      rw [step_idle s hr hp, step_idle t (hpins ▸ hr) (hph ▸ hp), ← hpins]
      refine thenTick_alike ?_
      split
      · exact dispatch_alike _ h hp
      · exact .next h

/-- Settles O47: the ports show no hidden register, and alike states step alike. -/
theorem hiddenRegistersNeverMatterBetweenCommands : Obligations.HiddenRegistersNeverMatterBetweenCommands := by
  intro s t h
  obtain ⟨hstatus, hdigest, hhex⟩ := ports_eq_of_alike h
  have hstep := step_alike h
  generalize step t = o at hstep ⊢
  refine ⟨hstatus, hdigest, hhex, fun s' hs => ?_, fun r hs => ?_, fun r hs => ?_⟩ <;> rw [hs] at hstep
  · cases hstep with
    | next h' => exact ⟨_, rfl, h'⟩
  · cases hstep with
    | fault => rfl
  · cases hstep with
    | refused => rfl

end Sys2Proof.Machine
end

section
/-! A block in DONE keeps its digest, and a running block whose RC has no meaning stops (10_state.md R15, R20;
43_digest_engine.md R103; log entry 9). -/

namespace Sys2Proof.Machine

/-- In DONE every word but INIT leaves DS, FSM, LEN and PH as they are: it has no effect or raises an error
(43_digest_engine.md R103; 60_exceptions.md R134). -/
theorem dispatch_keeps_done {w : BitVec 16} {s t : State} (hs : dispatch w s = .next t) (hd : s.fsm = .done)
    (hw : w ≠ 0x0001) : t.ds = s.ds ∧ t.fsm = s.fsm ∧ t.len = s.len ∧ t.ph = s.ph := by
  obtain ⟨e, -, rfl⟩ | ⟨-, rfl⟩ | ⟨hinit, -⟩ | ⟨-, habsorb⟩ | ⟨k, -, hfinal⟩ := dispatch_cases hs
  · simp
  · simp
  · exact absurd (eq_of_decodeCmd_legal hinit) hw
  · obtain ⟨-, rfl⟩ | ⟨-, -, rfl⟩ | ⟨-, hnd, -⟩ := habsorb
    · simp
    · simp
    · exact absurd hd hnd
  · obtain ⟨-, rfl⟩ | ⟨-, -, rfl⟩ | ⟨-, hnd, -⟩ := hfinal
    · simp
    · simp
    · exact absurd hd hnd

/-- Settles O53: an idle step that is no reset dispatches a word or holds the state. -/
theorem doneKeepsItsDigest : Obligations.DoneKeepsItsDigest := by
  intro s t hs hi hd hr hw
  have hb := busy_eq_false_of_idle hi
  obtain ⟨u, rfl, ⟨hreset, -⟩ | ⟨-, hbusy, -⟩ | ⟨-, -, ha, hu⟩ | ⟨-, -, -, rfl⟩⟩ := step_cases hs
  · simp [hr] at hreset
  · simp [hb] at hbusy
  · have hv : s.pins.cmdValid = true := by
      simp only [State.accepts, Bool.and_eq_true] at ha
      exact ha.1
    obtain ⟨hds, hfsm, hlen, hph⟩ := dispatch_keeps_done hu hd (hw hv)
    exact ⟨hds, hfsm.trans hd, hlen, hph.trans hi⟩
  · exact ⟨rfl, hd, rfl, hi⟩

/-- Settles O40: neither a round nor the add-back has an RC above 64. -/
theorem rcOutOfRangeStops : Obligations.RcOutOfRangeStops := by
  intro s hr hp hrc
  have hround : ¬ s.rc.toNat ≤ 63 := by omega
  have hadd : s.rc.toNat ≠ 64 := by omega
  rw [step_run s hr hp, microStep, if_neg hround, if_neg hadd, thenTick]

end Sys2Proof.Machine
end

section
/-! The fields of STATUS (10_state.md R22, R26, R29). -/

namespace Sys2Proof.Machine

/-- The bits of STATUS: the fields FSM, BUSY, ERR and ERRCAUSE from bit 0 up, then zeros (10_state.md R29). -/
theorem status_getLsbD (s : State) (i : Nat) :
    s.status.getLsbD i =
      if i < 2 then s.fsm.code.getLsbD i else if i = 2 then s.busy else if i = 3 then s.err
      else s.errCause.getLsbD (i - 4) := by
  change BitVec.getLsbD (w := 1 + 3 + 1 + 1 + 2)
    (0#1 ++ s.errCause ++ BitVec.ofBool s.err ++ BitVec.ofBool s.busy ++ s.fsm.code) i = _
  simp only [BitVec.getLsbD_append, BitVec.getLsbD_ofBool]
  obtain hi | rfl | rfl | hi : i < 2 ∨ i = 2 ∨ i = 3 ∨ 4 ≤ i := by omega
  · simp [hi]
  · simp
  · simp
  · obtain ⟨j, rfl⟩ := Nat.exists_eq_add_of_le' hi
    simpa using BitVec.lt_of_getLsbD (x := s.errCause) (i := j)

theorem status_fsm (s : State) : s.status.extractLsb' 0 2 = s.fsm.code := by
  apply BitVec.eq_of_getLsbD_eq
  intro i hi
  simp [status_getLsbD, hi]

theorem status_busy (s : State) : s.status.getLsbD 2 = s.busy := by
  rw [status_getLsbD]; rfl

theorem status_err (s : State) : s.status.getLsbD 3 = s.err := by
  rw [status_getLsbD]; rfl

theorem status_errCause (s : State) : s.status.extractLsb' 4 3 = s.errCause := by
  apply BitVec.eq_of_getLsbD_eq
  intro i hi
  have hne : ¬ 4 + i < 2 ∧ 4 + i ≠ 2 ∧ 4 + i ≠ 3 := by omega
  rw [BitVec.getLsbD_extractLsb', status_getLsbD]
  simp [hi, hne]

theorem status_top (s : State) : s.status.getLsbD 7 = false := by
  rw [status_getLsbD]
  exact BitVec.getLsbD_of_ge _ 3 le_rfl

theorem fsm_code_eq_two_iff (f : Fsm) : f.code = 0b10 ↔ f = .finalizing := by
  cases f <;> decide

/-- Settles O54: each field is read off the bits of STATUS; ERRCAUSE and FSM are bounded by the invariant. -/
theorem statusShowsItsFields : Obligations.StatusShowsItsFields := by
  refine ⟨fun s => ⟨?_, ?_, ?_, status_err s, status_errCause s, status_top s, fun hinv => ⟨?_, fun hi => ?_⟩⟩, by decide⟩
  · rw [status_fsm]
    cases s.fsm <;> rfl
  · rw [status_busy, busy_iff_run]
  · rw [status_busy, State.cmdReady]
  · obtain ⟨⟨-, hcause⟩, -⟩ := hinv
    rwa [status_errCause]
  · obtain ⟨-, -, hidle, -⟩ := hinv
    rw [status_fsm, Ne, fsm_code_eq_two_iff]
    exact hidle hi

end Sys2Proof.Machine
end

section
/-! The decoder and the encoder as inverses of each other (30_encoding.md R59, R62), and the legal words as the rows of
the opcode table (R60). -/

namespace Sys2Proof

theorem decodeCmd_commandWord (c : Command) : decodeCmd (commandWord c) = .legal c := by
  cases c with
  | final k => exact decodeCmd_finalWord k
  | _ => decide

theorem decodeCmd_eq_legal_iff {w : BitVec 16} {c : Command} : decodeCmd w = .legal c ↔ w = commandWord c :=
  ⟨eq_of_decodeCmd_legal, fun h => h ▸ decodeCmd_commandWord c⟩

theorem decode_cmd16_eq_ok_iff {w : BitVec 16} {i : Instr} :
    decode (.cmd16 w) = .ok i ↔ ∃ c : Command, w = commandWord c ∧ c.toInstr = i := by
  simp only [← decodeCmd_eq_legal_iff, decode]
  cases decodeCmd w <;> simp

theorem encode_toInstr (c : Command) : encode c.toInstr = .cmd16 (commandWord c) := by
  cases c <;> rfl

theorem encode_decodeRound (r : BitVec 6) : encode (decodeRound r) = .round6 r := by
  revert r; decide

theorem decode_encode (i : Instr) : decode (encode i) = .ok i := by
  cases i with
  | final k => exact decode_cmd16_eq_ok_iff.mpr ⟨.final k, rfl, rfl⟩
  | _ => rfl

theorem encode_of_decode {c : Code} {i : Instr} (h : decode c = .ok i) : encode i = c := by
  cases c with
  | cmd16 w =>
    obtain ⟨cmd, rfl, rfl⟩ := decode_cmd16_eq_ok_iff.mp h
    exact encode_toInstr cmd
  | round6 r =>
    cases h
    exact encode_decodeRound r

/-- Settles O3: a command word decodes exactly when it is the word of a command; each round index is its own code. -/
theorem decodeAndEncodeAgree : Obligations.DecodeAndEncodeAgree :=
  ⟨decode_encode, fun _ _ => encode_of_decode⟩

/-! ### The check order on OP, RSV and K -/

theorem decodeCmd_of_reserved_op {w : BitVec 16} (h : 4 ≤ w.toNat % 8) : decodeCmd w = .illegal .rsvdOp :=
  if_pos ((cmdOp_toNat w).symm ▸ h)

theorem cmdRsv_eq_zero_iff (w : BitVec 16) : cmdRsv w = 0 ↔ w.toNat / 512 = 0 := by
  rw [BitVec.toNat_eq, cmdRsv_toNat]; rfl

theorem cmdK_eq_zero_iff (w : BitVec 16) : cmdK w = 0 ↔ w.toNat / 8 % 64 = 0 := by
  rw [BitVec.toNat_eq, cmdK_toNat]; rfl

theorem cmdOp_eq_three_iff (w : BitVec 16) : cmdOp w = 3 ↔ w.toNat % 8 = 3 := by
  rw [BitVec.toNat_eq, cmdOp_toNat]; rfl

/-- The second check: RSV under a legal opcode. -/
theorem decodeCmd_of_rsv {w : BitVec 16} (hop : w.toNat % 8 < 4) (hrsv : w.toNat / 512 ≠ 0) :
    decodeCmd w = .illegal .rsvdField := by
  rw [decodeCmd, if_neg (by rw [cmdOp_toNat]; omega), if_pos (mt (cmdRsv_eq_zero_iff w).mp hrsv)]

/-- The third check: K under NOP, INIT or ABSORB. -/
theorem decodeCmd_of_k {w : BitVec 16} (hop : w.toNat % 8 < 3) (hrsv : w.toNat / 512 = 0) (hk : w.toNat / 8 % 64 ≠ 0) :
    decodeCmd w = .illegal .rsvdField := by
  have h3 : cmdOp w ≠ 3 := by rw [Ne, cmdOp_eq_three_iff]; omega
  rw [decodeCmd, if_neg (by rw [cmdOp_toNat]; omega), if_neg (not_not.mpr ((cmdRsv_eq_zero_iff w).mpr hrsv)),
    if_pos ⟨h3, mt (cmdK_eq_zero_iff w).mp hk⟩]

/-- A word with RSV = 0 is built from its K and its OP. -/
theorem eq_cmdWord {w : BitVec 16} {k : BitVec 6} {op : BitVec 3} (hop : w.toNat % 8 = op.toNat)
    (hrsv : w.toNat / 512 = 0) (hk : w.toNat / 8 % 64 = k.toNat) : w = cmdWord k op := by
  apply BitVec.eq_of_toNat_eq
  rw [cmdWord_toNat]
  omega

theorem cmdWord_three (k : BitVec 6) : cmdWord k 3 = (0x0003 : BitVec 16) ||| (k.zeroExtend 16 <<< 3) := by
  revert k; decide

theorem exists_legal_iff (w : BitVec 16) :
    (∃ c, decodeCmd w = .legal c) ↔
      w = 0x0000 ∨ w = 0x0001 ∨ w = 0x0002 ∨ ∃ k : BitVec 6, w = (0x0003 : BitVec 16) ||| (k.zeroExtend 16 <<< 3) := by
  simp only [decodeCmd_eq_legal_iff, ← cmdWord_three]
  constructor
  · rintro ⟨c, rfl⟩
    cases c with
    | nop => exact .inl rfl
    | init => exact .inr (.inl rfl)
    | absorb => exact .inr (.inr (.inl rfl))
    | final k => exact .inr (.inr (.inr ⟨k, rfl⟩))
  · rintro (rfl | rfl | rfl | ⟨k, rfl⟩)
    exacts [⟨.nop, rfl⟩, ⟨.init, rfl⟩, ⟨.absorb, rfl⟩, ⟨.final k, rfl⟩]

/-- Settles O2: the three checks in their order, then the word of the command that OP names. -/
theorem commandDecodeFollowsItsFields : Obligations.CommandDecodeFollowsItsFields := by
  intro w op k rsv
  exact ⟨decodeCmd_of_reserved_op, decodeCmd_of_rsv, decodeCmd_of_k,
    fun hop hrsv hk => decodeCmd_eq_legal_iff.mpr (eq_cmdWord hop hrsv hk),
    fun hop hrsv hk => decodeCmd_eq_legal_iff.mpr (eq_cmdWord hop hrsv hk),
    fun hop hrsv hk => decodeCmd_eq_legal_iff.mpr (eq_cmdWord hop hrsv hk),
    fun hop hrsv => decodeCmd_eq_legal_iff.mpr (eq_cmdWord hop hrsv (by rw [BitVec.toNat_ofNat]; omega)),
    exists_legal_iff w⟩

/-! ### The rows of the opcode table -/

theorem cmdOp_and (v w : BitVec 16) : cmdOp (v &&& w) = cmdOp v &&& cmdOp w := BitVec.extractLsb'_and

theorem cmdRsv_and (v w : BitVec 16) : cmdRsv (v &&& w) = cmdRsv v &&& cmdRsv w := BitVec.extractLsb'_and

theorem TableRow.accepts_iff (t : TableRow) (w : BitVec 16) : t.accepts w = true ↔ w &&& t.mask = t.bits := beq_iff_eq

/-- A row whose mask is all ones has one word, its own bits. -/
theorem TableRow.accepts_iff_eq {t : TableRow} (hm : t.mask = BitVec.allOnes 16) (w : BitVec 16) :
    t.accepts w = true ↔ w = t.bits := by
  rw [t.accepts_iff, hm, BitVec.and_allOnes]

/-- A row whose mask holds all of OP has only words with its own OP. -/
theorem TableRow.cmdOp_eq_of_accepts {t : TableRow} (hm : cmdOp t.mask = BitVec.allOnes 3) {w : BitVec 16}
    (h : t.accepts w = true) : cmdOp w = cmdOp t.bits := by
  rw [← (t.accepts_iff w).mp h, cmdOp_and, hm, BitVec.and_allOnes]

/-- FINAL's mask leaves K free and fixes RSV and OP. -/
theorem finalRow_accepts_iff (w : BitVec 16) : finalRow.accepts w = true ↔ ∃ k, w = cmdWord k 3 := by
  constructor
  · intro h
    have hop : cmdOp w = 3 := TableRow.cmdOp_eq_of_accepts (by decide) h
    have hrsv : cmdRsv w = 0 := by
      have hbits : cmdRsv (w &&& finalRow.mask) = cmdRsv finalRow.bits := congrArg cmdRsv ((finalRow.accepts_iff w).mp h)
      rwa [cmdRsv_and, show cmdRsv finalRow.mask = BitVec.allOnes 7 by decide, BitVec.and_allOnes] at hbits
    exact ⟨cmdK w, hop ▸ cmdWord_of_rsv hrsv⟩
  · rintro ⟨k, rfl⟩
    revert k; decide

theorem wf_cmd16_iff (w : BitVec 16) : (Code.cmd16 w).wf = true ↔ ∃ c, decodeCmd w = .legal c := by
  rw [exists_legal_iff]
  simp only [← cmdWord_three, ← finalRow_accepts_iff, Code.wf, Bool.or_eq_true, or_assoc]
  rw [TableRow.accepts_iff_eq rfl, TableRow.accepts_iff_eq rfl, TableRow.accepts_iff_eq rfl]
  rfl

theorem exists_decode_iff_wf (c : Code) : (∃ i, decode c = .ok i) ↔ c.wf = true := by
  cases c with
  | cmd16 w =>
    simp only [wf_cmd16_iff, decode_cmd16_eq_ok_iff, decodeCmd_eq_legal_iff]
    exact ⟨fun ⟨_, c, hc, _⟩ => ⟨c, hc⟩, fun ⟨c, hc⟩ => ⟨c.toInstr, c, hc, rfl⟩⟩
  | round6 r => exact iff_of_true ⟨decodeRound r, rfl⟩ rfl

/-- The CMD16 rows of spec/opcode_table.json. -/
def cmd16Rows : List TableRow := [nopRow, initRow, absorbRow, finalRow]

/-- The four rows differ in OP, and every mask holds all of OP. -/
theorem countP_accepts_le_one (w : BitVec 16) : cmd16Rows.countP (·.accepts w) ≤ 1 := by
  have hmask : ∀ t ∈ cmd16Rows, cmdOp t.mask = BitVec.allOnes 3 := by decide
  have hop : ∀ op, cmd16Rows.countP (op = cmdOp ·.bits) ≤ 1 := by decide
  calc cmd16Rows.countP (·.accepts w)
      ≤ cmd16Rows.countP (cmdOp w = cmdOp ·.bits) :=
        List.countP_mono_left fun t ht ha => decide_eq_true (TableRow.cmdOp_eq_of_accepts (hmask t ht) ha)
    _ ≤ 1 := hop (cmdOp w)

/-- Settles O4: the words of the rows are the legal words, and two rows differ in OP. -/
theorem legalCodesAreTheTableRows : Obligations.LegalCodesAreTheTableRows :=
  ⟨exists_decode_iff_wf, countP_accepts_le_one⟩

/-- Settles O1: each word is a literal, and decoding computes. -/
theorem sampleWordsDecode : Obligations.SampleWordsDecode := by
  unfold Obligations.SampleWordsDecode
  decide

end Sys2Proof
end

section
/-! The host's lines: bytes in lanes, and the words they offer (30_encoding.md R65; 20_memory.md R40). -/

namespace Sys2Proof.Machine

/-- Lane j of a list of bytes holds byte j, and 0x00 beyond the last byte. -/
theorem lanesToNat_div_mod (y : List Byte) (j : Nat) : lanesToNat y / 256 ^ j % 256 = (byteAt y j).toNat := by
  induction y generalizing j with
  | nil => simp [lanesToNat, byteAt]
  | cons b bs ih =>
    have hb : b.toNat < 256 := b.isLt
    cases j with
    | zero => simp only [lanesToNat, byteAt, pow_zero, List.getD_cons_zero]; omega
    | succ j =>
      have hdiv : lanesToNat (b :: bs) / 256 = lanesToNat bs := by simp only [lanesToNat]; omega
      rw [pow_succ', ← Nat.div_div_eq_div_mul, hdiv, ih]
      rfl

/-- A port that shows bytes in its lanes, lane 0 first, has byte j in lane j. -/
theorem extractLsb'_ofNat_lanesToNat {n j : Nat} (y : List Byte) (h : 8 * j + 8 ≤ n) :
    (BitVec.ofNat n (lanesToNat y)).extractLsb' (8 * j) 8 = byteAt y j := by
  apply BitVec.eq_of_toNat_eq
  have hdvd : 2 ^ (8 * j) * 256 ∣ 2 ^ n := by
    rw [show (256 : Nat) = 2 ^ 8 by decide, ← pow_add]
    exact pow_dvd_pow 2 h
  rw [BitVec.extractLsb'_toNat, BitVec.toNat_ofNat, Nat.shiftRight_eq_div_pow, ← lanesToNat_div_mod,
    show 256 ^ j = 2 ^ (8 * j) by rw [pow_mul]; rfl]
  change _ % 256 = _
  rw [← Nat.mod_mul_right_div_self, Nat.mod_mod_of_dvd _ hdvd, Nat.mod_mul_right_div_self]

theorem dinByte_packDin (y : List Byte) {j : Nat} (h : j < 64) : dinByte (packDin y) j = byteAt y j :=
  extractLsb'_ofNat_lanesToNat y (by omega)

theorem dinByte_zero (j : Nat) : dinByte 0 j = 0 := BitVec.extractLsb'_zero

/-- The word of FINAL(k), with k given as a number (30_encoding.md R65). -/
theorem cmdWord_final_of_le {k : Nat} (h : k ≤ 63) :
    cmdWord (BitVec.ofNat 6 k) 3 = 0x0003 ||| (BitVec.ofNat 16 k <<< 3) := by
  rw [cmdWord_three, BitVec.zeroExtend, BitVec.setWidth_ofNat_of_le_of_lt (by decide) (by omega)]
  rfl

/-- Settles O60: the lanes by induction on the bytes; the word of FINAL is built from its k; a read has no offer. -/
theorem hostLinesCarryTheirWordsAndLanes : Obligations.HostLinesCarryTheirWordsAndLanes := by
  refine ⟨fun bytes _ j hj => dinByte_packDin bytes hj, ⟨rfl, rfl⟩, fun block => rfl, fun rem hrem => ?_,
    fun w => ⟨0, rfl, fun j _ => dinByte_zero j⟩, fun s => ⟨rfl, rfl, rfl⟩⟩
  rw [← cmdWord_final_of_le hrem]
  exact ⟨rfl, decodeCmd_finalWord _⟩

end Sys2Proof.Machine
end

section
/-! The 32-bit operations (40_word32_arith.md R68 to R73): the sum as addition, the rotation bit by bit, the logic as the
library's. -/

namespace Sys2Proof.Machine

/-- Settles O5: the sum is addition of bit vectors, and the inverse of a is its two's complement. -/
theorem addIsTheSumModulo2To32 : Obligations.AddIsTheSumModulo2To32 := by
  unfold Obligations.AddIsTheSumModulo2To32
  simp only [add32_eq_add]
  refine ⟨BitVec.toNat_add, BitVec.add_comm, BitVec.add_assoc, BitVec.add_zero, fun a => ?_, fun a q x t => ?_⟩
  · have hneg : BitVec.ofNat 32 ((2 ^ 32 - a.toNat) % 2 ^ 32) = -a := by
      rw [← BitVec.toNat_neg, BitVec.ofNat_toNat, BitVec.setWidth_eq]
    rw [hneg]
    exact BitVec.add_right_neg a
  · simp only [BitVec.toNat_add]
    omega

/-- The rotation on naturals: only the left shift can leave the word (R70). -/
theorem rotl_toNat (v : Word) (s : BitVec 5) :
    (rotl v s).toNat = ((v.toNat <<< s.toNat) ||| (v.toNat >>> (32 - s.toNat))) % 2 ^ 32 := by
  have hright : v.toNat >>> (32 - s.toNat) < 2 ^ 32 := (v >>> (32 - s.toNat)).isLt
  rw [rotl, BitVec.toNat_or, BitVec.toNat_shiftLeft, BitVec.toNat_ushiftRight, Nat.or_mod_two_pow,
    Nat.mod_eq_of_lt hright]

/-- Bit i comes from bit i - s of the left shift, or from bit i + 32 - s of the right shift when i < s (R70). -/
theorem rotl_getLsbD (v : Word) (s : BitVec 5) {i : Nat} (hi : i < 32) :
    (rotl v s).getLsbD i = v.getLsbD ((i + 32 - s.toNat) % 32) := by
  have hs : s.toNat < 32 := s.isLt
  rw [rotl_eq_rotateLeft, BitVec.getLsbD_rotateLeft, Nat.mod_eq_of_lt hs]
  by_cases hlow : i < s.toNat
  · rw [decide_eq_true hlow, cond_true]
    congr 1
    omega
  · rw [decide_eq_false hlow, cond_false, decide_eq_true hi, Bool.true_and]
    congr 1
    omega

theorem rotl_zero (v : Word) : rotl v 0 = v := by
  apply BitVec.eq_of_getLsbD_eq
  intro i hi
  rw [rotl_getLsbD v 0 hi, show (0 : BitVec 5).toNat = 0 from rfl, Nat.sub_zero, Nat.add_mod_right, Nat.mod_eq_of_lt hi]

/-- Settles O6: the shift formula, the bits on either side of the amount, and the amount 0. -/
theorem rotateMovesEveryBit : Obligations.RotateMovesEveryBit :=
  fun v s => ⟨rotl_toNat v s, fun _ hi => rotl_getLsbD v s hi, rotl_zero v⟩

/-- Settles O7: the complement on naturals, and the library's bits of each operation. -/
theorem logicIsBitwise : Obligations.LogicIsBitwise := by
  refine ⟨fun v => ?_, fun a b i _ => ⟨BitVec.getLsbD_and, BitVec.getLsbD_or, BitVec.getLsbD_xor⟩⟩
  rw [not32_eq_complement, BitVec.toNat_not]

end Sys2Proof.Machine
end

section
/-! `cmn` and the four mixing functions (41_round_functions.md R75 to R79), and the select column of the ROM (R83). -/

namespace Sys2Proof.Machine

/-- The four-operand sum, in the order the datapath adds, is the sum of the naturals modulo 2^32 (R69). -/
theorem add32_add32_add32 (a q x t : Word) :
    add32 (add32 a q) (add32 x t) = BitVec.ofNat 32 (a.toNat + q.toNat + x.toNat + t.toNat) := by
  obtain ⟨-, -, -, -, -, hsum⟩ := addIsTheSumModulo2To32
  apply BitVec.eq_of_toNat_eq
  rw [hsum, BitVec.toNat_ofNat]

/-- With nothing else to add and nothing to rotate, `cmn` adds a and b. -/
theorem cmn_zero (a b : Word) : cmn 0 a b 0 0 0 = add32 a b := by
  rw [cmn, rotl_zero]
  simp [add32_eq_add]

/-- Settles O8: the four-operand sum as a sum of naturals, then the rotation, then b; the examples compute. -/
theorem cmnRotatesTheSumThenAddsB : Obligations.CmnRotatesTheSumThenAddsB := by
  refine fun q a b x s t => ⟨?_, cmn_zero a b, by decide, by decide⟩
  rw [cmn, add32_add32_add32, add32_eq_add, add32_eq_add, BitVec.add_comm]

/-- The function select g of a round function, as r[5:4] gives it (30_encoding.md R63). -/
def RoundFn.select : RoundFn → BitVec 2
  | .f => 0
  | .g => 1
  | .h => 2
  | .i => 3

theorem rom_g_eq_iff (fn : RoundFn) : ∀ r : BitVec 6, (rom r).g = fn ↔ r.extractLsb' 4 2 = fn.select := by
  cases fn <;> decide

theorem fF_eq (b c d : Word) : fF b c d = (b &&& c) ||| (~~~b &&& d) := by
  rw [fF, not32_eq_complement]; rfl

theorem fG_eq (b c d : Word) : fG b c d = (b &&& d) ||| (c &&& ~~~d) := by
  rw [fG, not32_eq_complement]; rfl

theorem fH_eq (b c d : Word) : fH b c d = b ^^^ c ^^^ d := rfl

theorem fI_eq (b c d : Word) : fI b c d = c ^^^ (b ||| ~~~d) := by
  rw [fI, not32_eq_complement]; rfl

/-- `fF` selects by b: c where b is 1, d where it is 0 (R76). -/
theorem fF_getLsbD (b c d : Word) {n : Nat} (hn : n < 32) :
    (fF b c d).getLsbD n = if b.getLsbD n then c.getLsbD n else d.getLsbD n := by
  rw [fF_eq, BitVec.getLsbD_or, BitVec.getLsbD_and, BitVec.getLsbD_and, BitVec.getLsbD_not, decide_eq_true hn]
  cases b.getLsbD n <;> simp

/-- `fG` selects by d: b where d is 1, c where it is 0 (R77). -/
theorem fG_getLsbD (b c d : Word) {n : Nat} (hn : n < 32) :
    (fG b c d).getLsbD n = if d.getLsbD n then b.getLsbD n else c.getLsbD n := by
  rw [fG_eq, BitVec.getLsbD_or, BitVec.getLsbD_and, BitVec.getLsbD_and, BitVec.getLsbD_not, decide_eq_true hn]
  cases d.getLsbD n <;> simp

theorem fH_getLsbD (b c d : Word) (n : Nat) : (fH b c d).getLsbD n = (b.getLsbD n ^^ c.getLsbD n ^^ d.getLsbD n) := by
  rw [fH_eq, BitVec.getLsbD_xor, BitVec.getLsbD_xor, Bool.xor_assoc]

theorem fI_getLsbD (b c d : Word) {n : Nat} (hn : n < 32) :
    (fI b c d).getLsbD n = (c.getLsbD n ^^ (b.getLsbD n || !d.getLsbD n)) := by
  simp [fI_eq, hn]

/-- The mask of all ones picks c everywhere (R76). -/
theorem fF_ones (c d : Word) : fF 0xffffffff c d = c := by
  rw [fF_eq, show (0xffffffff : Word) = BitVec.allOnes 32 from rfl, BitVec.allOnes_and, BitVec.not_allOnes,
    BitVec.zero_and, BitVec.or_zero]

theorem fF_zero (c d : Word) : fF 0 c d = d := by
  rw [fF_eq, show (0 : Word) = 0#32 from rfl, BitVec.zero_and, BitVec.not_zero, BitVec.allOnes_and, BitVec.zero_or]

theorem fF_same (b c : Word) : fF b c c = c := by
  apply BitVec.eq_of_getLsbD_eq
  intro n hn
  rw [fF_getLsbD b c c hn, ite_self]

/-- The mask of all ones picks b everywhere (R77). -/
theorem fG_ones (b c : Word) : fG b c 0xffffffff = b := by
  rw [fG_eq, show (0xffffffff : Word) = BitVec.allOnes 32 from rfl, BitVec.and_allOnes, BitVec.not_allOnes,
    BitVec.and_zero, BitVec.or_zero]

theorem fG_zero (b c : Word) : fG b c 0 = c := by
  rw [fG_eq, show (0 : Word) = 0#32 from rfl, BitVec.and_zero, BitVec.not_zero, BitVec.and_allOnes, BitVec.zero_or]

theorem fH_same (v d : Word) : fH v v d = d := by
  rw [fH_eq, BitVec.xor_self, BitVec.zero_xor]

/-- Settles O9: the select by b bit by bit, its corner cases, the rule's example, and g = 0. -/
theorem roundFMixesAsItsRuleSays : Obligations.RoundFMixesAsItsRuleSays :=
  ⟨fun _ b c d _ _ _ => ⟨fF_eq b c d, rfl⟩, fun b c d _ hn => fF_getLsbD b c d hn,
    fun b c d => ⟨fF_ones c d, fF_zero c d, fF_same b c⟩, by decide, by decide, rom_g_eq_iff .f⟩

/-- Settles O10: the select by d bit by bit, its corner cases, the rule's example, and g = 1. -/
theorem roundGMixesAsItsRuleSays : Obligations.RoundGMixesAsItsRuleSays :=
  ⟨fun _ b c d _ _ _ => ⟨fG_eq b c d, rfl⟩, fun b c d _ hn => fG_getLsbD b c d hn,
    fun b c => ⟨fG_ones b c, fG_zero b c⟩, by decide, rom_g_eq_iff .g⟩

/-- Settles O11: the parity bit by bit, its corner cases, the rule's example, and g = 2. -/
theorem roundHMixesAsItsRuleSays : Obligations.RoundHMixesAsItsRuleSays :=
  ⟨fun _ b c d _ _ _ => ⟨fH_eq b c d, rfl⟩, fun b c d n _ => fH_getLsbD b c d n,
    ⟨fH_same, fH_same 0 0, fH_same 0xffffffff 0xffffffff⟩, by decide, rom_g_eq_iff .h⟩

/-- Settles O12: the formula bit by bit, its corner cases, the rule's example, and g = 3. -/
theorem roundIMixesAsItsRuleSays : Obligations.RoundIMixesAsItsRuleSays :=
  ⟨fun _ b c d _ _ _ => ⟨fI_eq b c d, rfl⟩, fun b c d _ hn => fI_getLsbD b c d hn, by decide, by decide,
    rom_g_eq_iff .i⟩

end Sys2Proof.Machine
end

section
/-! The columns of the round table (41_round_functions.md R82 to R84), and the micro-operations as its rows (R86). -/

namespace Sys2Proof.Machine

/-- Settles O13: the 64 rows are literals, so each column is computed against its formula. -/
theorem roundTableFollowsItsSchedules : Obligations.RoundTableFollowsItsSchedules := by
  unfold Obligations.RoundTableFollowsItsSchedules
  decide

/-- A micro-operation with its k, s and T, as one row of the function `fn` in the ROM (R82). -/
abbrev IsRomRow (fn : RoundFn) (row : Instr × Fin 16 × BitVec 5 × Word) : Prop :=
  ∃ r : BitVec 6, row.1 = decodeRound r ∧ rom r = ⟨fn, row.2.1, row.2.2.1, row.2.2.2⟩

/-- The micro-operation of a ROM row does the round step of that row, counts RC, and nothing else
(R86; 43_digest_engine.md R113). -/
theorem exec_of_isRomRow {fn : RoundFn} {row : Instr × Fin 16 × BitVec 5 × Word} (h : IsRomRow fn row) (s : State) :
    exec row.1 s = .next { s with
      wv := ⟨s.wv.d, fn.apply s.wv.a s.wv.b s.wv.c s.wv.d s.x[row.2.1] row.2.2.1 row.2.2.2, s.wv.b, s.wv.c⟩
      rc := s.rc + 1 } := by
  obtain ⟨r, hop, hrow⟩ := h
  rw [hop, exec_decodeRound, roundMicroStep, roundStep, hrow, roundStepWith]

/-- Settles O14: each row is a row of F in the ROM, so its micro-operation does the round step of F. -/
theorem roundsFRunTheRoundStep : Obligations.RoundsFRunTheRoundStep :=
  fun row hrow => exec_of_isRomRow (fn := .f) (by revert row; decide)

/-- Settles O15: each row is a row of G in the ROM, so its micro-operation does the round step of G. -/
theorem roundsGRunTheRoundStep : Obligations.RoundsGRunTheRoundStep :=
  fun row hrow => exec_of_isRomRow (fn := .g) (by revert row; decide)

/-- Settles O16: each row is a row of H in the ROM, so its micro-operation does the round step of H. -/
theorem roundsHRunTheRoundStep : Obligations.RoundsHRunTheRoundStep :=
  fun row hrow => exec_of_isRomRow (fn := .h) (by revert row; decide)

/-- Settles O17: each row is a row of I in the ROM, so its micro-operation does the round step of I. -/
theorem roundsIRunTheRoundStep : Obligations.RoundsIRunTheRoundStep :=
  fun row hrow => exec_of_isRomRow (fn := .i) (by revert row; decide)

end Sys2Proof.Machine
end

section
/-! RFC 1321's fixed-name form of the rounds (41_round_functions.md R87): it moves the roles around the names, where
the model moves the values around the roles. -/

namespace Sys2Proof.Machine

/-- Each value one role further, a to b, b to c, c to d, d to a: where a round's `(d, new, b, c)` puts the values whose
names the fixed-name form keeps. -/
def rotateRoles (w : Quad) : Quad := ⟨w.d, w.a, w.b, w.c⟩

theorem rotateRoles_isPeriodicPt (w : Quad) : Function.IsPeriodicPt rotateRoles 4 w := rfl

/-- Round r of the fixed-name form writes the name that has role a after r mod 4 rotations (R87). -/
theorem roundStep_rotateRoles (r : BitVec 6) (x : Vector Word 16) (w : Quad) :
    roundStep r x (rotateRoles^[r.toNat % 4] w) = rotateRoles^[r.toNat % 4 + 1] (namedRound r x w) := by
  have hr : r.toNat % 4 < 4 := Nat.mod_lt _ (by decide)
  unfold namedRound
  interval_cases r.toNat % 4 <;> rfl

/-- After n rounds the model holds the values of the fixed-name form, rotated n times. -/
theorem rounds_eq_rotateRoles_namedRounds (x : Vector Word 16) (w : Quad) (n : Nat) :
    rounds x w n = rotateRoles^[n] (namedRounds x w n) := by
  induction n with
  | zero => rfl
  | succ n ih =>
    have hmod : (BitVec.ofNat 6 n).toNat % 4 = n % 4 := by
      rw [BitVec.toNat_ofNat, Nat.mod_mod_of_dvd _ (by decide)]
    have hstep := roundStep_rotateRoles (BitVec.ofNat 6 n) x (namedRounds x w n)
    rw [hmod, (rotateRoles_isPeriodicPt _).iterate_mod_apply, Function.iterate_succ_apply',
      (rotateRoles_isPeriodicPt _).iterate_mod_apply, ← ih] at hstep
    rw [Function.iterate_succ_apply']
    exact hstep

/-- Settles O18: 64 is a multiple of 4, so after round 63 the values are back in the roles of their names. -/
theorem fixedNameFormEqualsRoleRotation : Obligations.FixedNameFormEqualsRoleRotation := by
  intro x w
  rw [rounds_eq_rotateRoles_namedRounds]
  exact ((rotateRoles_isPeriodicPt _).mul_const 16).eq.symm

end Sys2Proof.Machine
end

section
/-! The bytes of the pieces that the padding joins, and of their joins (42_padding_decoder.md R90 to R95). -/

namespace Sys2Proof.Machine

theorem byteAt_of_length_le {y : List Byte} {j : Nat} (h : y.length ≤ j) : byteAt y j = 0 :=
  List.getD_eq_default _ _ h

theorem byteAt_append (y z : List Byte) (j : Nat) :
    byteAt (y ++ z) j = if j < y.length then byteAt y j else byteAt z (j - y.length) := by
  unfold byteAt
  split
  case isTrue h => exact List.getD_append _ _ _ _ h
  case isFalse h => exact List.getD_append_right _ _ _ _ (not_lt.mp h)

@[simp] theorem byteAt_zeros (z j : Nat) : byteAt (zeros z) j = 0 := by
  unfold byteAt zeros
  by_cases h : j < z
  · exact List.getD_replicate _ h
  · exact List.getD_eq_default _ _ (by simpa using h)

theorem byteAt_le32 (l : Word) (j : Nat) : byteAt (le32 l) j = if j < 4 then l.extractLsb' (8 * j) 8 else 0 := by
  by_cases h : j < 4
  · rw [if_pos h]
    interval_cases j <;> rfl
  · rw [if_neg h, byteAt_of_length_le (by simpa using h)]

theorem byteAt_lengthField (l : Word) (j : Nat) :
    byteAt (lengthField l) j = if j < 4 then l.extractLsb' (8 * j) 8 else 0 := by
  rw [lengthField, byteAt_append, byteAt_zeros, le32_length, byteAt_le32]
  split <;> rfl

/-- A list of bytes is determined by its length and its bytes. -/
theorem eq_of_byteAt_eq {y z : List Byte} (hlen : y.length = z.length) (h : ∀ j < y.length, byteAt y j = byteAt z j) :
    y = z := by
  refine List.ext_getElem hlen fun j hy hz => ?_
  have hj := h j hy
  rwa [byteAt, byteAt, List.getD_eq_getElem _ _ hy, List.getD_eq_getElem _ _ hz] at hj

end Sys2Proof.Machine
end

section
/-! The words of a block and their bytes (42_padding_decoder.md R88, R89): a word is the block's word exactly when its
four bytes are the block's. -/

namespace Sys2Proof.Machine

@[simp] theorem decodeBlock_getElem (y : List Byte) (i : Nat) (h : i < 16) : (decodeBlock y)[i] = blockWord y i :=
  Vector.getElem_ofFn h

@[simp] theorem decodeBlock_getElem_fin (y : List Byte) (i : Fin 16) : (decodeBlock y)[i] = blockWord y i :=
  decodeBlock_getElem y i i.isLt

/-- The four bytes of a word stand in separate bits (R88). -/
theorem blockWord_extractLsb' (y : List Byte) (i : Nat) {j : Nat} (hj : j < 4) :
    (blockWord y i).extractLsb' (8 * j) 8 = byteAt y (4 * i + j) := by
  apply BitVec.eq_of_getLsbD_eq
  intro n hn
  simp only [blockWord, BitVec.getLsbD_extractLsb', BitVec.getLsbD_or, BitVec.getLsbD_shiftLeft, BitVec.zeroExtend,
    BitVec.getLsbD_setWidth]
  interval_cases j <;> interval_cases n <;> simp [BitVec.getLsbD_of_ge]

theorem byteAt_toNat_eq_blockWord (y : List Byte) (i : Nat) {j : Nat} (hj : j < 4) :
    (byteAt y (4 * i + j)).toNat = (blockWord y i).toNat / 2 ^ (8 * j) % 2 ^ 8 := by
  rw [← blockWord_extractLsb' y i hj, BitVec.extractLsb'_toNat, Nat.shiftRight_eq_div_pow]

theorem blockWord_toNat (y : List Byte) (i : Nat) :
    (blockWord y i).toNat = (byteAt y (4 * i)).toNat + 2 ^ 8 * (byteAt y (4 * i + 1)).toNat
      + 2 ^ 16 * (byteAt y (4 * i + 2)).toNat + 2 ^ 24 * (byteAt y (4 * i + 3)).toNat := by
  have hword : (blockWord y i).toNat < 2 ^ 32 := (blockWord y i).isLt
  have hfirst : (byteAt y (4 * i)).toNat = _ := byteAt_toNat_eq_blockWord y i (j := 0) (by decide)
  rw [hfirst, byteAt_toNat_eq_blockWord y i (j := 1) (by decide), byteAt_toNat_eq_blockWord y i (j := 2) (by decide),
    byteAt_toNat_eq_blockWord y i (j := 3) (by decide)]
  omega

theorem word_eq_of_bytes_eq {v w : Word} (h : ∀ j < 4, v.extractLsb' (8 * j) 8 = w.extractLsb' (8 * j) 8) : v = w := by
  apply BitVec.eq_of_getLsbD_eq
  intro n hn
  have hbit := congrArg (BitVec.getLsbD · (n % 8)) (h (n / 8) (by omega))
  simpa [BitVec.getLsbD_extractLsb', Nat.mod_lt, Nat.div_add_mod] using hbit

/-- The word of a block, byte by byte: every later fact about words goes through the bytes. -/
theorem blockWord_eq_iff (y : List Byte) (i : Nat) (w : Word) :
    blockWord y i = w ↔ ∀ j < 4, byteAt y (4 * i + j) = w.extractLsb' (8 * j) 8 := by
  constructor
  · rintro rfl j hj
    exact (blockWord_extractLsb' y i hj).symm
  · intro h
    exact word_eq_of_bytes_eq fun j hj => (blockWord_extractLsb' y i hj).trans (h j hj)

/-- The block of 16 words: byte 4i + j is byte j of word i (R89). -/
def encodeBlock (x : Vector Word 16) : List Byte :=
  List.ofFn fun n : Fin 64 => (x[n.val / 4]).extractLsb' (8 * (n.val % 4)) 8

theorem encodeBlock_length (x : Vector Word 16) : (encodeBlock x).length = 64 := List.length_ofFn

theorem byteAt_encodeBlock (x : Vector Word 16) {i j : Nat} (hi : i < 16) (hj : j < 4) :
    byteAt (encodeBlock x) (4 * i + j) = x[i].extractLsb' (8 * j) 8 := by
  have hlen : 4 * i + j < (encodeBlock x).length := by rw [encodeBlock_length]; omega
  have hdiv : (4 * i + j) / 4 = i := by omega
  have hmod : (4 * i + j) % 4 = j := by omega
  rw [byteAt, List.getD_eq_getElem _ _ hlen]
  simp only [encodeBlock, List.getElem_ofFn, hdiv, hmod]

theorem decodeBlock_encodeBlock (x : Vector Word 16) : decodeBlock (encodeBlock x) = x := by
  ext1 i hi
  rw [decodeBlock_getElem, blockWord_eq_iff]
  exact fun j hj => byteAt_encodeBlock x hi hj

/-- The bytes of a block come back from its words, so no two blocks share their words (R89). -/
theorem decodeBlock_injective {y z : List Byte} (hy : y.length = 64) (hz : z.length = 64)
    (h : decodeBlock y = decodeBlock z) : y = z := by
  refine eq_of_byteAt_eq (hy.trans hz.symm) fun n hn => ?_
  have hi : n / 4 < 16 := by omega
  have hj : n % 4 < 4 := Nat.mod_lt _ (by decide)
  have hword : blockWord y (n / 4) = blockWord z (n / 4) := by
    rw [← decodeBlock_getElem y _ hi, ← decodeBlock_getElem z _ hi, h]
  rw [← Nat.div_add_mod n 4, ← blockWord_extractLsb' y _ hj, ← blockWord_extractLsb' z _ hj, hword]

/-- Settles O19: the bytes come back from the words, and `encodeBlock` builds a block for any words. -/
theorem decodeBlockIsLittleEndianBijection : Obligations.DecodeBlockIsLittleEndianBijection := by
  refine ⟨fun y _ i => ?_, fun y z => decodeBlock_injective,
    fun x => ⟨encodeBlock x, encodeBlock_length x, decodeBlock_encodeBlock x⟩⟩
  rw [decodeBlock_getElem_fin]
  exact ⟨blockWord_toNat y i, fun j hj => (blockWord_extractLsb' y i hj).symm⟩

end Sys2Proof.Machine
end

section
/-! The tail blocks: their lengths, bytes and words (42_padding_decoder.md R93 to R95, R98). -/

namespace Sys2Proof.Machine

theorem tb1_of_le {rem : List Byte} (h : rem.length ≤ 55) (l : Word) :
    tb1 rem l = rem ++ [0x80] ++ zeros (55 - rem.length) ++ lengthField l := if_pos h

theorem tb1_of_gt {rem : List Byte} (h : ¬ rem.length ≤ 55) (l : Word) :
    tb1 rem l = rem ++ [0x80] ++ zeros (63 - rem.length) := if_neg h

theorem terminated_length (rem : List Byte) (z : Nat) : (rem ++ [0x80] ++ zeros z).length = rem.length + 1 + z := by
  rw [List.length_append, List.length_append, List.length_singleton, zeros_length]

/-- What stands before the length field in a TB1 that has one. -/
theorem terminated_length_of_le {rem : List Byte} (h : rem.length ≤ 55) :
    (rem ++ [0x80] ++ zeros (55 - rem.length)).length = 56 := by
  rw [terminated_length]
  omega

theorem tb1_length {rem : List Byte} (h : rem.length ≤ 63) (l : Word) : (tb1 rem l).length = 64 := by
  by_cases hk : rem.length ≤ 55
  · rw [tb1_of_le hk, List.length_append, terminated_length_of_le hk, lengthField_length]
  · rw [tb1_of_gt hk, terminated_length]
    omega

theorem tb2_length (l : Word) : (tb2 l).length = 64 := by simp [tb2]

/-- Bytes of the remainder and its terminator with zeros behind them. -/
theorem byteAt_terminated (rem : List Byte) (z j : Nat) :
    byteAt (rem ++ [0x80] ++ zeros z) j =
      if j < rem.length then byteAt rem j else if j = rem.length then 0x80 else 0 := by
  rw [List.append_assoc, byteAt_append]
  rcases lt_trichotomy j rem.length with hlt | rfl | hgt
  · rw [if_pos hlt, if_pos hlt]
  · rw [if_neg (lt_irrefl _), if_neg (lt_irrefl _), if_pos rfl, Nat.sub_self]
    rfl
  · obtain ⟨d, rfl⟩ := Nat.exists_eq_add_of_lt hgt
    rw [if_neg (by omega), if_neg (by omega), if_neg (by omega), Nat.add_assoc, Nat.add_sub_cancel_left]
    exact byteAt_zeros z d

/-- The length field at the end of a block (R93). -/
theorem byteAt_append_lengthField {y : List Byte} (hy : y.length = 56) (l : Word) (j : Nat) :
    byteAt (y ++ lengthField l) j =
      if j < 56 then byteAt y j else if j < 60 then l.extractLsb' (8 * (j - 56)) 8 else 0 := by
  rw [byteAt_append, hy, byteAt_lengthField]
  by_cases hj : j < 56
  · rw [if_pos hj, if_pos hj]
  · rw [if_neg hj, if_neg hj]
    exact if_congr (by omega) rfl rfl

theorem byteAt_tb1 {rem : List Byte} (h : rem.length ≤ 63) (l : Word) (j : Nat) :
    byteAt (tb1 rem l) j =
      if j < rem.length then byteAt rem j
      else if j = rem.length then 0x80
      else if rem.length ≤ 55 ∧ 56 ≤ j ∧ j < 60 then l.extractLsb' (8 * (j - 56)) 8
      else 0 := by
  by_cases hk : rem.length ≤ 55
  · rw [tb1_of_le hk, byteAt_append_lengthField (terminated_length_of_le hk), byteAt_terminated]
    by_cases hj : j < 56
    · rw [if_pos hj, if_neg (c := _ ∧ _) (by omega)]
    · rw [if_neg hj, if_neg (show ¬ j < rem.length by omega), if_neg (show j ≠ rem.length by omega)]
      exact if_congr (by omega) rfl rfl
  · rw [tb1_of_gt hk, byteAt_terminated]
    simp [hk]

theorem byteAt_tb2 (l : Word) (j : Nat) :
    byteAt (tb2 l) j = if 56 ≤ j ∧ j < 60 then l.extractLsb' (8 * (j - 56)) 8 else 0 := by
  rw [tb2, byteAt_append_lengthField (zeros_length 56), byteAt_zeros]
  by_cases hj : j < 56
  · rw [if_pos hj, if_neg (by omega)]
  · rw [if_neg hj]
    exact if_congr (by omega) rfl rfl

/-- Settles O21: the bytes of each join of a tail block. -/
theorem tailBlocksHoldRemainderTerminatorAndLength : Obligations.TailBlocksHoldRemainderTerminatorAndLength :=
  fun _ l h => ⟨rfl, tb1_length h l, tb2_length l, fun j _ => ⟨byteAt_tb1 h l j, byteAt_tb2 l j⟩⟩

/-- The terminator as the byte o of a word; O22 shifts it as a natural number. -/
theorem terminator_extractLsb' : ∀ o < 4, ∀ j < 4,
    ((0x80 <<< (8 * o) : Nat) : Word).extractLsb' (8 * j) 8 = if j = o then 0x80 else 0 := by
  decide

theorem blockWord_tb1_of_lt {rem : List Byte} (h : rem.length ≤ 63) (l : Word) {i : Nat} (hi : i < rem.length / 4) :
    blockWord (tb1 rem l) i = blockWord rem i := by
  rw [blockWord_eq_iff]
  intro j hj
  rw [blockWord_extractLsb' rem i hj, byteAt_tb1 h, if_pos (by omega)]

theorem blockWord_tb1_terminator {rem : List Byte} (h : rem.length ≤ 63) (l : Word) :
    blockWord (tb1 rem l) (rem.length / 4) =
      blockWord rem (rem.length / 4) ||| (0x80 <<< (8 * (rem.length % 4))) := by
  rw [blockWord_eq_iff]
  intro j hj
  rw [BitVec.extractLsb'_or, blockWord_extractLsb' rem _ hj, terminator_extractLsb' _ (Nat.mod_lt _ (by decide)) j hj,
    byteAt_tb1 h]
  rcases lt_trichotomy j (rem.length % 4) with hlt | heq | hgt
  · rw [if_pos (by omega), if_neg (by omega)]
    exact BitVec.or_zero.symm
  · rw [if_neg (by omega), if_pos (by omega), if_pos heq, byteAt_of_length_le (by omega)]
    exact BitVec.zero_or.symm
  · rw [if_neg (by omega), if_neg (by omega), if_neg (by omega), if_neg (by omega), byteAt_of_length_le (by omega)]
    exact BitVec.zero_or.symm

theorem blockWord_tb1_of_gt {rem : List Byte} (h : rem.length ≤ 63) (l : Word) {i : Nat} (hi : rem.length / 4 < i) :
    blockWord (tb1 rem l) i = if rem.length ≤ 55 ∧ i = 14 then l else 0 := by
  rw [blockWord_eq_iff]
  intro j hj
  rw [byteAt_tb1 h, if_neg (by omega), if_neg (by omega)]
  by_cases hfield : rem.length ≤ 55 ∧ i = 14
  · obtain ⟨hk, rfl⟩ := hfield
    rw [if_pos (by omega), if_pos ⟨hk, rfl⟩]
    congr 1
    omega
  · rw [if_neg (by omega), if_neg hfield]
    exact BitVec.extractLsb'_zero.symm

theorem blockWord_tb2 (l : Word) (i : Nat) : blockWord (tb2 l) i = if i = 14 then l else 0 := by
  rw [blockWord_eq_iff]
  intro j hj
  rw [byteAt_tb2]
  by_cases hi : i = 14
  · rw [if_pos (by omega), if_pos hi]
    congr 1
    omega
  · rw [if_neg (by omega), if_neg hi]
    exact BitVec.extractLsb'_zero.symm

/-- Settles O22: the words from the bytes of the tail blocks, below, at and above the terminator's word. -/
theorem tailBlockWordsAreAsListed : Obligations.TailBlockWordsAreAsListed := by
  intro rem l h i
  simp only [decodeBlock_getElem_fin]
  exact ⟨blockWord_tb1_of_lt h l, fun hi => hi ▸ blockWord_tb1_terminator h l, blockWord_tb1_of_gt h l,
    blockWord_tb2 l i⟩

/-- The last tail block: 56 bytes, then the length field (R93). -/
theorem exists_append_lengthField_eq_last_tail (rem : List Byte) (l : Word) :
    ∃ y : List Byte, y.length = 56 ∧ (tails rem l).getLastD [] = y ++ lengthField l := by
  by_cases hk : rem.length ≤ 55
  · exact ⟨rem ++ [0x80] ++ zeros (55 - rem.length), terminated_length_of_le hk, by simp [tails, hk, tb1_of_le hk]⟩
  · exact ⟨zeros 56, zeros_length 56, by simp [tails, hk, tb2]⟩

/-- The length depends on the byte count modulo 2^29 alone (R93). -/
theorem bitLength_add_two_pow (n : Nat) : bitLength (n + 2 ^ 29) = bitLength n := by
  rw [bitLength, Nat.mul_add, show 8 * 2 ^ 29 = 2 ^ 32 by decide, Nat.add_mod_right, bitLength]

theorem bitLength_toNat (n : Nat) : (bitLength n).toNat = 8 * n % 2 ^ 32 := by
  rw [bitLength, BitVec.toNat_ofNat, Nat.mod_mod]

/-- Settles O23: the last tail block is 56 bytes and the length field, whose words are L and 0. -/
theorem lengthFieldEndsTheLastBlock : Obligations.LengthFieldEndsTheLastBlock := by
  refine ⟨fun rem l _ => ?_, fun n => ⟨bitLength_toNat n, bitLength_add_two_pow n⟩⟩
  obtain ⟨y, hy, hlast⟩ := exists_append_lengthField_eq_last_tail rem l
  simp only [hlast, decodeBlock_getElem, blockWord_eq_iff]
  refine ⟨by simp [hy], List.drop_left' hy, fun j hj => ?_, fun j hj => ?_⟩
  · rw [byteAt_append_lengthField hy, if_neg (by omega), if_pos (by omega), show 4 * 14 + j - 56 = j by omega]
  · rw [byteAt_append_lengthField hy, if_neg (by omega), if_neg (by omega)]
    exact BitVec.extractLsb'_zero.symm

end Sys2Proof.Machine
end

section
/-! The padded message: its length, and its blocks as the message's full blocks and the tail blocks
(42_padding_decoder.md R90, R91, R96). -/

namespace Sys2Proof.Machine

theorem pad_length (m : List Byte) : (pad m).length = m.length + 1 + padZeros m.length + 8 := by
  rw [pad, List.length_append, terminated_length, lengthField_length]

/-- Settles O20: the number of zeros is 55 - n modulo 64, which makes up the whole blocks. -/
theorem paddedLengthIsWholeBlocks : Obligations.PaddedLengthIsWholeBlocks := by
  intro m
  have hz := padZeros_eq m.length
  refine ⟨pad_length m, by omega, ?_⟩
  rw [pad_length]
  split <;> omega

theorem zeros_append (a b : Nat) : zeros a ++ zeros b = zeros (a + b) := List.replicate_append_replicate

/-- The tail blocks joined are the remainder with its terminator, zeros and length field, as `pad` writes them. -/
theorem flatten_tails {rem : List Byte} (h : rem.length ≤ 63) (l : Word) :
    (tails rem l).flatten = rem ++ [0x80] ++ zeros (padZeros rem.length) ++ lengthField l := by
  have hz := padZeros_eq rem.length
  by_cases hk : rem.length ≤ 55
  · have hz' : padZeros rem.length = 55 - rem.length := by omega
    simp [tails, hk, tb1_of_le hk, hz']
  · have hz' : padZeros rem.length = (63 - rem.length) + 56 := by omega
    simp [tails, hk, tb1_of_gt hk, tb2, hz', ← zeros_append]

theorem length_of_mem_tails {rem y : List Byte} (h : rem.length ≤ 63) {l : Word} (hy : y ∈ tails rem l) :
    y.length = 64 := by
  have hcases : y = tb1 rem l ∨ y = tb2 l := by
    unfold tails at hy
    split at hy
    · exact .inl (List.mem_singleton.mp hy)
    · simpa using hy
  rcases hcases with rfl | rfl
  · exact tb1_length h l
  · exact tb2_length l

theorem length_of_mem_fullBlocks {m y : List Byte} (hy : y ∈ fullBlocks m) : y.length = 64 := by
  obtain ⟨b, hb, rfl⟩ := List.mem_map.mp hy
  have hb := List.mem_range.mp hb
  rw [List.length_take, List.length_drop]
  omega

/-- The first n slices of 64 bytes, joined. -/
theorem flatten_map_slices (m : List Byte) (n : Nat) :
    ((List.range n).map fun b => (m.drop (64 * b)).take 64).flatten = m.take (64 * n) := by
  induction n with
  | zero => simp
  | succ n ih => rw [List.range_succ, List.map_append, List.flatten_append, ih, Nat.mul_succ, List.take_add]; simp

/-- A message is its full blocks, joined, and its remainder (R96). -/
theorem flatten_fullBlocks_append_remainder (m : List Byte) : (fullBlocks m).flatten ++ remainder m = m := by
  rw [fullBlocks, flatten_map_slices, remainder, List.take_append_drop]

theorem remainder_length (m : List Byte) : (remainder m).length = m.length % 64 := by
  rw [remainder, List.length_drop]
  omega

theorem fullBlocks_block_append {y : List Byte} (hy : y.length = 64) (m : List Byte) :
    fullBlocks (y ++ m) = y :: fullBlocks m := by
  have hcount : (y ++ m).length / 64 = m.length / 64 + 1 := by rw [List.length_append]; omega
  have hdrop : ∀ b, (y ++ m).drop (64 * (b + 1)) = m.drop (64 * b) := fun b => by
    rw [show 64 * (b + 1) = y.length + 64 * b by omega, List.drop_length_add_append]
  rw [fullBlocks, hcount, List.range_succ_eq_map, List.map_cons, List.map_map, Nat.mul_zero, List.drop_zero,
    List.take_left' hy]
  simp [fullBlocks, hdrop]

/-- Cutting joined blocks gives the blocks back. -/
theorem fullBlocks_flatten {ys : List (List Byte)} (h : ∀ y ∈ ys, y.length = 64) : fullBlocks ys.flatten = ys := by
  induction ys with
  | nil => rfl
  | cons y ys ih =>
    rw [List.flatten_cons, fullBlocks_block_append (h y List.mem_cons_self),
      ih fun z hz => h z (List.mem_cons_of_mem y hz)]

/-- `pad` depends on the message's end as the tail-block builder sees it (R96). -/
theorem pad_eq_flatten (m : List Byte) :
    pad m = (fullBlocks m ++ tails (remainder m) (bitLength m.length)).flatten := by
  have hrem := remainder_length m
  have hz : padZeros (remainder m).length = padZeros m.length := by simp [padZeros_eq, hrem]
  rw [List.flatten_append, flatten_tails (by omega), hz]
  simp only [pad, ← List.append_assoc, flatten_fullBlocks_append_remainder]

/-- Settles O24: the padded message is the joined blocks, and cutting it gives them back. -/
theorem padIsFullBlocksThenTails : Obligations.PadIsFullBlocksThenTails := by
  intro m
  have hrem := remainder_length m
  have hblocks : fullBlocks (pad m) = fullBlocks m ++ tails (remainder m) (bitLength m.length) := by
    rw [pad_eq_flatten]
    refine fullBlocks_flatten fun y hy => ?_
    rcases List.mem_append.mp hy with hfull | htail
    · exact length_of_mem_fullBlocks hfull
    · exact length_of_mem_tails (by omega) htail
  exact ⟨hblocks, by rw [hblocks, ← pad_eq_flatten]⟩

end Sys2Proof.Machine
end

section
/-! FINAL(k) reads DIN lanes 0 to k - 1 alone (42_padding_decoder.md R97). -/

namespace Sys2Proof.Machine

theorem dinLanes_congr {d e : BitVec 512} {k : Nat} (h : ∀ j < k, dinByte d j = dinByte e j) :
    dinLanes d k = dinLanes e k :=
  List.map_congr_left fun j hj => h j (List.mem_range.mp hj)

/-- The pins enter the acceptance of FINAL through the remainder alone (43_digest_engine.md R112). -/
theorem acceptFinal_with_inputs {k : BitVec 6} {s : State} {l : List Pins}
    (h : dinLanes (l.headD Pins.quiet).din k.toNat = dinLanes s.pins.din k.toNat) :
    acceptFinal k { s with inputs := l } = { acceptFinal k s with inputs := l } := by
  have hpins : dinLanes ({ s with inputs := l } : State).pins.din k.toNat = dinLanes s.pins.din k.toNat := h
  simp only [acceptFinal, hpins]
  rfl

theorem raiseCmdError_with_inputs (e : CmdError) (s : State) (l : List Pins) :
    raiseCmdError e { s with inputs := l } = { raiseCmdError e s with inputs := l } := by
  unfold raiseCmdError
  split <;> rfl

/-- FINAL commutes with a change of the pins that keeps the remainder. -/
theorem exec_final_with_inputs {k : BitVec 6} {s : State} {l : List Pins}
    (h : dinLanes (l.headD Pins.quiet).din k.toNat = dinLanes s.pins.din k.toNat) :
    exec (.final k) { s with inputs := l } =
      .next { unlessError s (if s.fsm = .done then raiseCmdError .finalAfterDone s else acceptFinal k s) with
        inputs := l } := by
  refine (exec_command (.final k) _).trans (congrArg _ ?_)
  simp only [acceptFinal_with_inputs h, raiseCmdError_with_inputs, unlessError]
  split
  · rfl
  · split <;> rfl

/-- Settles O25: both outcomes are that of the state with the first pins, but for the pins. -/
theorem finalIgnoresTheLanesAboveK : Obligations.FinalIgnoresTheLanesAboveK := by
  intro k s p q rest h
  exact ⟨_, exec_final_with_inputs (s := { s with inputs := p :: rest }) rfl,
    exec_final_with_inputs (s := { s with inputs := p :: rest }) (dinLanes_congr h).symm⟩

end Sys2Proof.Machine
end

section
/-! What each command does when its checks pass (43_digest_engine.md R105 to R112). -/

namespace Sys2Proof.Machine

/-- Settles O26: the meaning of NOP is the state itself. -/
theorem nopHasNoEffect : Obligations.NopHasNoEffect := fun s => exec_command .nop s

/-- Settles O27: INIT writes literals only, so a second INIT writes the same again. -/
theorem initLoadsTheInitialState : Obligations.InitLoadsTheInitialState :=
  fun s => ⟨exec_command .init s, exec_command .init _⟩

theorem exec_absorb_of_ready {s : State} (he : s.err = false) (hd : s.fsm ≠ .done) :
    exec .absorb s = .next (acceptAbsorb s) := by
  refine (exec_command .absorb s).trans ?_
  simp [unlessError, he, hd]

theorem exec_final_of_ready {s : State} (k : BitVec 6) (he : s.err = false) (hd : s.fsm ≠ .done) :
    exec (.final k) s = .next (acceptFinal k s) := by
  refine (exec_command (.final k) s).trans ?_
  simp [unlessError, he, hd]

/-- The count modulo 2^32 is addition of words (10_state.md R23). -/
theorem ofNat_toNat_add (l : Word) (n : Nat) : BitVec.ofNat 32 ((l.toNat + n) % 2 ^ 32) = l + BitVec.ofNat 32 n := by
  apply BitVec.eq_of_toNat_eq
  simp

theorem byteAt_dinLanes (din : BitVec 512) {k j : Nat} (h : j < k) : byteAt (dinLanes din k) j = dinByte din j := by
  rw [byteAt, List.getD_eq_getElem _ _ (by simpa using h)]
  simp [dinLanes]

/-- Word i of the block on DIN stands in DIN[32i+31:32i] (43_digest_engine.md R111). -/
theorem decodeBlock_dinBlock (din : BitVec 512) :
    decodeBlock (dinBlock din) = Vector.ofFn fun i => din.extractLsb' (32 * i.val) 32 := by
  ext1 i hi
  rw [decodeBlock_getElem, Vector.getElem_ofFn, blockWord_eq_iff]
  intro j hj
  rw [dinBlock, byteAt_dinLanes din (by omega), dinByte]
  apply BitVec.eq_of_getLsbD_eq
  intro n hn
  have hbit : 8 * j + n < 32 := by omega
  have hpos : 8 * (4 * i + j) + n = 32 * i + (8 * j + n) := by omega
  simp [hn, hbit, hpos]

/-- Settles O28: the checks pass, and the words of the 64 lanes are read off DIN. -/
theorem absorbStartsItsBlock : Obligations.AbsorbStartsItsBlock := by
  intro s he hd
  rw [exec_absorb_of_ready he hd, ← decodeBlock_dinBlock,
    show s.len + 512 = (addLen 512 s).len from (ofNat_toNat_add s.len 512).symm]
  rfl

/-- The bits that FINAL(k) adds to LEN (43_digest_engine.md R112). -/
theorem ofNat_eight_mul (k : BitVec 6) : BitVec.ofNat 32 (8 * k.toNat) = 8 * k.zeroExtend 32 := by
  apply BitVec.eq_of_toNat_eq
  simp

/-- Settles O29: the checks pass, and TB1 is built from the new LEN. -/
theorem finalStartsItsFirstTailBlock : Obligations.FinalStartsItsFirstTailBlock := by
  intro k s he hd l
  have hlen : l = (addLen (8 * k.toNat) s).len := by rw [addLen_len, ofNat_toNat_add, ofNat_eight_mul]
  rw [exec_final_of_ready k he hd, hlen]
  rfl

end Sys2Proof.Machine
end

section
/-! A step of the sequencer: the accepted command, the round that RC selects, the add-back (43_digest_engine.md R104,
R105, R113, R114), and the three events that write DS (R102). -/

namespace Sys2Proof.Machine

/-- A step that runs `o` answers what `o` answers, with the host's next pins, and stops as `o` stops. -/
theorem step_follows {s : State} {o : Host.Outcome State Fault Refusal} (h : step s = thenTick o) :
    (∀ t, o = .next t → step s = .next { t with inputs := t.inputs.tail, draw := t.draw + 1 }) ∧
    (∀ r, o = .fault r → step s = .fault r) ∧ ∀ r, o = .refused r → step s = .refused r := by
  rw [h]
  refine ⟨?_, ?_, ?_⟩ <;> rintro _ rfl <;> rfl

/-- Settles O34: the word is that of a command, and an idle block runs its command. -/
theorem stepRunsTheAcceptedCommand : Obligations.StepRunsTheAcceptedCommand := by
  intro s i hr hi hv hdecode
  obtain ⟨c, hw, rfl⟩ := decode_cmd16_eq_ok_iff.mp hdecode
  exact step_follows (step_of_legal hr hi hv (decodeCmd_eq_legal_iff.mpr hw))

theorem roundIndex_eq (s : State) : s.roundIndex = BitVec.ofNat 6 s.rc.toNat := by
  apply BitVec.eq_of_toNat_eq
  simp [State.roundIndex, BitVec.extractLsb']

theorem step_round {s : State} (hr : s.pins.reset = false) (hp : s.ph = .run) (hrc : s.rc.toNat ≤ 63) :
    step s = thenTick (exec (decodeRound (BitVec.ofNat 6 s.rc.toNat)) s) := by
  rw [step_run s hr hp, microStep, if_pos hrc, roundIndex_eq]

theorem step_addBack {s : State} (hr : s.pins.reset = false) (hp : s.ph = .run) (hrc : s.rc.toNat = 64) :
    step s = .next (addBack s).tick := by
  rw [step_run s hr hp, microStep, if_neg (by omega), if_pos hrc, thenTick]

/-- Settles O35: a round index decodes to its micro-operation, which is the one that a running block runs. -/
theorem stepRunsTheRoundThatRcSelects : Obligations.StepRunsTheRoundThatRcSelects := by
  intro s i hr hp hrc hdecode
  cases hdecode
  exact step_follows (step_round hr hp hrc)

/-- Settles O36: the micro-operation of a round is the round micro-step, and RC is counted in 7 bits. -/
theorem roundMicroStepChangesOnlyWorkingValuesAndRc : Obligations.RoundMicroStepChangesOnlyWorkingValuesAndRc := by
  intro s hr hp hrc
  have hnext : BitVec.ofNat 7 (s.rc.toNat + 1) = s.rc + 1 := by
    apply BitVec.eq_of_toNat_eq
    simp
  rw [step_round hr hp hrc, exec_decodeRound, hnext]
  rfl

theorem accumulate_eq (ds wv : Quad) : accumulate ds wv = ⟨ds.a + wv.a, ds.b + wv.b, ds.c + wv.c, ds.d + wv.d⟩ := by
  simp only [accumulate, add32_eq_add]

/-- Settles O37: the two branches of the add-back. -/
theorem addBackEndsABlock : Obligations.AddBackEndsABlock := by
  intro s hr hp hrc ds'
  have hds : ds' = accumulate s.ds s.wv := (accumulate_eq _ _).symm
  rw [step_addBack hr hp hrc, hds]
  obtain ⟨htail, heq⟩ | ⟨htail, heq⟩ := addBack_cases s
  · refine ⟨fun _ => ?_, fun h => ?_⟩
    · rw [heq, hp]
      rfl
    · simp [htail] at h
  · refine ⟨fun h => ?_, fun _ => ⟨_, rfl, ?_⟩⟩
    · simp [htail] at h
    · simp [heq]

theorem addBack_ds (s : State) : (addBack s).ds = accumulate s.ds s.wv := by
  obtain ⟨-, heq⟩ | ⟨-, heq⟩ := addBack_cases s <;> rw [heq] <;> rfl

/-- Of the commands only INIT writes DS in its acceptance step (43_digest_engine.md R102). -/
theorem dispatch_ds {w : BitVec 16} {s t : State} (h : dispatch w s = .next t) :
    (w = 0x0001 ∧ t.ds = iv) ∨ (w ≠ 0x0001 ∧ t.ds = s.ds) := by
  have hword : w = 0x0001 ↔ decodeCmd w = .legal .init :=
    (decodeCmd_eq_legal_iff (c := .init)).symm
  rw [Ne, hword]
  obtain ⟨e, hc, rfl⟩ | ⟨hc, rfl⟩ | ⟨hc, rfl⟩ | ⟨hc, habsorb⟩ | ⟨k, hc, hfinal⟩ := dispatch_cases h
  · simp [hc]
  · simp [hc]
  · simp [hc]
  · obtain ⟨-, rfl⟩ | ⟨-, -, rfl⟩ | ⟨-, -, rfl⟩ := habsorb <;> simp [hc, acceptAbsorb]
  · obtain ⟨-, rfl⟩ | ⟨-, -, rfl⟩ | ⟨-, -, rfl⟩ := hfinal <;> simp [hc, acceptFinal]

theorem accepts_of_not_busy {s : State} (h : s.busy = false) : s.accepts = s.pins.cmdValid := by
  simp [State.accepts, State.cmdReady, h]

/-- Settles O46: a reset, a round, the add-back, a dispatch, or a step that holds the state. -/
theorem dsIsWrittenByThreeEventsOnly : Obligations.DsIsWrittenByThreeEventsOnly := by
  intro s t hs
  obtain ⟨u, rfl, ⟨hr, rfl⟩ | ⟨hr, hb, hm⟩ | ⟨hr, hb, ha, hd⟩ | ⟨hr, hb, ha, hu⟩⟩ := step_cases hs
  · exact .inl ⟨rfl, .inl hr⟩
  · have hp := (busy_iff_run s).mp hb
    obtain ⟨hrc, rfl⟩ | ⟨hrc, rfl⟩ := microStep_cases hm
    · have hne : s.rc.toNat ≠ 64 := by omega
      exact .inr (.inr ⟨rfl, hr, by simp [hne], by simp [hp]⟩)
    · exact .inr (.inl ⟨(addBack_ds s).trans (accumulate_eq _ _), hr, hp, hrc⟩)
  · have hi := (busy_eq_false_iff_idle s).mp hb
    have hv : s.pins.cmdValid = true := (accepts_of_not_busy hb).symm.trans ha
    obtain ⟨hw, hds⟩ | ⟨hw, hds⟩ := dispatch_ds hd
    · exact .inl ⟨hds, .inr ⟨hi, hv, hw⟩⟩
    · exact .inr (.inr ⟨hds, hr, by simp [hi], fun ⟨_, _, h⟩ => hw h⟩)
  · have hi := (busy_eq_false_iff_idle s).mp hb
    have hv : s.pins.cmdValid = false := (accepts_of_not_busy hb).symm.trans ha
    exact .inr (.inr ⟨(congrArg State.ds hu : u.ds = s.ds), hr, by simp [hi], by simp [hv]⟩)

end Sys2Proof.Machine
end

section
/-! The transaction level: what each command does to the registers of a command boundary (43_digest_engine.md R103, R105
to R109). -/

namespace Sys2Proof.Machine

theorem transact_commandWord (c : Command) (din : BitVec 512) (m : Arch) :
    transact (commandWord c) din m = transactCommand c din m := by
  rw [transact, decodeCmd_commandWord]

theorem transact_init (din : BitVec 512) (m : Arch) : transact 0x0001 din m = .initial :=
  transact_commandWord .init din m

@[simp] theorem Arch.absorb_fsm (din : BitVec 512) (m : Arch) : (m.absorb din).fsm = .processing := rfl
@[simp] theorem Arch.absorb_err (din : BitVec 512) (m : Arch) : (m.absorb din).err = m.err := by
  cases m; rfl
@[simp] theorem Arch.final_fsm (k : BitVec 6) (din : BitVec 512) (m : Arch) : (m.final k din).fsm = .done := rfl
@[simp] theorem Arch.final_err (k : BitVec 6) (din : BitVec 512) (m : Arch) : (m.final k din).err = m.err := rfl

/-- The checks of ABSORB pass (43_digest_engine.md R105). -/
theorem transact_absorb {m : Arch} (he : m.err = false) (hd : m.fsm ≠ .done) (din : BitVec 512) :
    transact 0x0002 din m = m.absorb din := by
  refine (transact_commandWord .absorb din m).trans ?_
  simp [transactCommand, he, hd]

/-- The checks of FINAL pass (43_digest_engine.md R105). -/
theorem transact_final {m : Arch} (he : m.err = false) (hd : m.fsm ≠ .done) (k : BitVec 6) (din : BitVec 512) :
    transact (cmdWord k 3) din m = m.final k din := by
  refine (transact_commandWord (.final k) din m).trans ?_
  simp [transactCommand, he, hd]

theorem Arch.raise_of_no_error {m : Arch} (he : m.err = false) (e : CmdError) :
    m.raise e = { m with err := true, errCause := e.code } := by
  simp [Arch.raise, he]

theorem transact_absorb_of_done {m : Arch} (he : m.err = false) (hd : m.fsm = .done) (din : BitVec 512) :
    transact 0x0002 din m = { m with err := true, errCause := 3 } := by
  refine (transact_commandWord .absorb din m).trans ?_
  simp [transactCommand, he, hd, Arch.raise_of_no_error he, CmdError.code]

theorem transact_final_of_done {m : Arch} (he : m.err = false) (hd : m.fsm = .done) (k : BitVec 6) (din : BitVec 512) :
    transact (cmdWord k 3) din m = { m with err := true, errCause := 4 } := by
  refine (transact_commandWord (.final k) din m).trans ?_
  simp [transactCommand, he, hd, Arch.raise_of_no_error he, CmdError.code]

/-- No word decodes to one of the two errors that FSM = DONE raises (60_exceptions.md R128). -/
theorem code_of_decodeCmd_illegal {w : BitVec 16} {e : CmdError} (h : decodeCmd w = .illegal e) :
    e.code = if e = .rsvdOp then 1 else 2 := by
  unfold decodeCmd at h
  split_ifs at h <;> cases h <;> rfl

/-- Settles O48: each word's command on each FSM. -/
theorem transitionsFollowTheirTable : Obligations.TransitionsFollowTheirTable := by
  intro w din m he n
  refine ⟨?_, ?_, ?_, ?_, ?_, ?_, fun e hw => ?_⟩
  · rintro rfl
    rw [show n = .initial from transact_init din m]
    exact ⟨rfl, rfl⟩
  · rintro rfl
    exact transact_commandWord .nop din m
  · rintro rfl hd
    simp [n, transact_absorb he hd din, he]
  · rintro rfl hd
    exact transact_absorb_of_done he hd din
  · rintro k rfl hd
    simp [n, transact_final he hd k din, he]
  · rintro k rfl hd
    exact transact_final_of_done he hd k din
  · rw [← code_of_decodeCmd_illegal hw, ← Arch.raise_of_no_error he]
    change transact w din m = _
    rw [transact, hw]

end Sys2Proof.Machine
end

section
/-! Sequences of transactions: blocks chained from the IV, and the canonical sequence of a message
(43_digest_engine.md R116, R119, R120). -/

namespace Sys2Proof.Machine

/-- What ABSORB of a block offers (30_encoding.md R65). -/
def absorbOffer (y : List Byte) : Offer := ⟨0x0002, packDin y⟩

theorem filterMap_offer_absorb (ys : List (List Byte)) :
    (ys.map HostLine.absorb).filterMap HostLine.offer = ys.map absorbOffer := by
  rw [List.filterMap_map, ← List.filterMap_eq_map]
  rfl

/-- The lanes give back the bytes that the host put on them (30_encoding.md R65). -/
theorem dinLanes_packDin {y : List Byte} (h : y.length ≤ 64) : dinLanes (packDin y) y.length = y := by
  refine eq_of_byteAt_eq (dinLanes_length _ _) fun j hj => ?_
  rw [dinLanes_length] at hj
  rw [byteAt_dinLanes _ hj, dinByte_packDin y (by omega)]

theorem dinBlock_packDin {y : List Byte} (h : y.length = 64) : dinBlock (packDin y) = y := by
  rw [dinBlock, ← h, dinLanes_packDin h.le]

theorem add_bitLength (n : Nat) (l : Word) : l + bitLength n = BitVec.ofNat 32 ((l.toNat + 8 * n) % 2 ^ 32) := by
  apply BitVec.eq_of_toNat_eq
  rw [BitVec.toNat_add, bitLength_toNat, BitVec.toNat_ofNat]
  omega

theorem bitLength_add (n k : Nat) : bitLength (n + k) = bitLength n + bitLength k := by
  apply BitVec.eq_of_toNat_eq
  simp only [BitVec.toNat_add, bitLength_toNat]
  omega

theorem compressBlocks_append (ds : Quad) (ys zs : List (List Byte)) :
    compressBlocks ds (ys ++ zs) = compressBlocks (compressBlocks ds ys) zs := List.foldl_append

/-- The registers after a message's first blocks: the chained DS, LEN counted, FSM (43_digest_engine.md R119, R120). -/
def Arch.absorbed (ys : List (List Byte)) : Arch :=
  ⟨compressBlocks iv ys, if ys = [] then .init else .processing, bitLength (64 * ys.length), false, 0⟩

theorem Arch.absorbed_fsm_ne_done (ys : List (List Byte)) : (Arch.absorbed ys).fsm ≠ .done := by
  unfold Arch.absorbed
  split <;> simp

/-- One more ABSORB compresses its block and counts 512 bits. -/
theorem transact_absorb_absorbed (ys : List (List Byte)) {y : List Byte} (hy : y.length = 64) :
    transact 0x0002 (packDin y) (.absorbed ys) = .absorbed (ys ++ [y]) := by
  have hlen : bitLength (64 * (ys ++ [y]).length) = bitLength (64 * ys.length) + bitLength 64 := by
    rw [← bitLength_add, List.length_append, List.length_singleton, Nat.mul_add]
  rw [transact_absorb rfl (Arch.absorbed_fsm_ne_done ys)]
  simp only [Arch.absorb, Arch.absorbed, dinBlock_packDin hy, compressBlocks_append, hlen, add_bitLength]
  simp [compressBlocks]

theorem transactAll_absorbs (ys zs : List (List Byte)) (h : ∀ z ∈ zs, z.length = 64) :
    transactAll (zs.map absorbOffer) (.absorbed ys) = .absorbed (ys ++ zs) := by
  induction zs generalizing ys with
  | nil => simp [transactAll]
  | cons z zs ih =>
    have hz := transact_absorb_absorbed ys (h z List.mem_cons_self)
    have hrest := ih (ys ++ [z]) fun y hy => h y (List.mem_cons_of_mem z hy)
    rw [List.append_assoc, List.singleton_append] at hrest
    rw [← hrest, ← hz]
    rfl

theorem transactAll_cons (o : Offer) (os : List Offer) (m : Arch) :
    transactAll (o :: os) m = transactAll os (transact o.cmd o.din m) := rfl

theorem transactAll_append (os os' : List Offer) (m : Arch) :
    transactAll (os ++ os') m = transactAll os' (transactAll os m) := List.foldl_append

/-- INIT forgets what was before it, an error included; the blocks follow. -/
theorem transactAll_init_absorbs (m : Arch) {ys : List (List Byte)} (h : ∀ y ∈ ys, y.length = 64) :
    transactAll ((HostLine.init :: ys.map HostLine.absorb).filterMap HostLine.offer) m = .absorbed ys := by
  rw [List.filterMap_cons_some (f := HostLine.offer) rfl, filterMap_offer_absorb, transactAll_cons, transact_init]
  exact transactAll_absorbs [] ys h

/-- FINAL counts its bytes and compresses its tail blocks (43_digest_engine.md R109). -/
theorem transact_final_absorbed (ys : List (List Byte)) (k : BitVec 6) (din : BitVec 512) :
    transact (cmdWord k 3) din (.absorbed ys) =
      ⟨compressBlocks iv (ys ++ tails (dinLanes din k.toNat) (bitLength (64 * ys.length + k.toNat))), .done,
        bitLength (64 * ys.length + k.toNat), false, 0⟩ := by
  rw [transact_final rfl (Arch.absorbed_fsm_ne_done ys), bitLength_add, add_bitLength, compressBlocks_append]
  rfl

/-- Settles O50: the registers after INIT and the blocks, and LEN after one FINAL more. -/
theorem absorbsChainAndCountTheirBlocks : Obligations.AbsorbsChainAndCountTheirBlocks := by
  intro m ys h n
  rw [show n = .absorbed ys from transactAll_init_absorbs m h]
  refine ⟨rfl, bitLength_toNat _, rfl, rfl, rfl, fun k din => ?_⟩
  rw [transact_final_absorbed]
  exact bitLength_toNat _

theorem fullBlocks_length (m : List Byte) : (fullBlocks m).length = m.length / 64 := by
  simp [fullBlocks]

/-- The commands of the canonical sequence: INIT and the full blocks, then FINAL with the remainder (R116). -/
theorem canonical_eq (m : List Byte) :
    canonical m = (HostLine.init :: (fullBlocks m).map HostLine.absorb).filterMap HostLine.offer ++
      [⟨cmdWord (BitVec.ofNat 6 (remainder m).length) 3, packDin (remainder m)⟩] := by
  rw [canonical, digestProgram, List.singleton_append, List.filterMap_append]
  rfl

/-- Settles O51: FINAL's remainder completes the count, and the blocks of `pad` are the full blocks and the tails. -/
theorem canonicalSequenceGivesTheMessageDigest : Obligations.CanonicalSequenceGivesTheMessageDigest := by
  intro m before
  obtain ⟨hblocks, -⟩ := padIsFullBlocksThenTails m
  have hrem := remainder_length m
  have hk : (BitVec.ofNat 6 (remainder m).length).toNat = (remainder m).length := by
    rw [BitVec.toNat_ofNat]
    omega
  have hcount : 64 * (fullBlocks m).length + (remainder m).length = m.length := by
    rw [fullBlocks_length]
    omega
  rw [canonical_eq, transactAll_append, transactAll_init_absorbs before fun y => length_of_mem_fullBlocks,
    transactAll_cons, transact_final_absorbed, hk, hcount, dinLanes_packDin (by omega), ← hblocks]
  rfl

end Sys2Proof.Machine
end

section
/-! The micro-step level refines the transaction level (43_digest_engine.md R110 to R115): a started block takes 65 steps
to its add-back, which ends the command or starts the second tail block. -/

namespace Sys2Proof.Machine

/-- From `s` the datapath is busy for exactly n steps, and then it stands in `t`. -/
structure BusyUntil (n : Nat) (s t : State) : Prop where
  busy : ∀ j < n, ∃ u, Host.Core.run Sys2Proof.core j s = .next u ∧ u.busy = true
  run : Host.Core.run Sys2Proof.core n s = .next t

theorem BusyUntil.zero (s : State) : BusyUntil 0 s s := ⟨fun _ hj => absurd hj (Nat.not_lt_zero _), rfl⟩

theorem BusyUntil.one {s t : State} (hp : s.ph = .run) (h : step s = .next t) : BusyUntil 1 s t := by
  refine ⟨fun j hj => ⟨s, ?_, (busy_iff_run s).mpr hp⟩, run_succ 0 h⟩
  rw [Nat.lt_one_iff.mp hj]
  rfl

theorem BusyUntil.trans {m n : Nat} {s t u : State} (h : BusyUntil m s t) (h' : BusyUntil n t u) :
    BusyUntil (m + n) s u := by
  refine ⟨fun j hj => ?_, (run_add m n h.run).trans h'.run⟩
  by_cases hjm : j < m
  · exact h.busy j hjm
  · obtain ⟨i, rfl⟩ := Nat.exists_eq_add_of_le (not_lt.mp hjm)
    rw [run_add m i h.run]
    exact h'.busy i (by omega)

/-- A block that was just started: no round has run (43_digest_engine.md R111, R112, R114). -/
structure State.Started (s : State) : Prop where
  ph : s.ph = .run
  wv : s.wv = s.ds
  rc : s.rc = 0

theorem startBlock_tick_started (y : List Byte) (s : State) : (startBlock y s).tick.Started := ⟨rfl, rfl, rfl⟩

theorem busyUntil_afterRounds {s : State} {n : Nat} (hs : s.Started) (hn : n ≤ 64)
    (hq : ∀ q ∈ s.inputs.take n, q.reset = false) : BusyUntil n s (s.afterRounds n) := by
  have hrun := run_rounds hs.ph hs.wv hs.rc hn hq
  exact ⟨fun j hj => ⟨_, hrun j hj.le, (busy_iff_run _).mpr hs.ph⟩, hrun n le_rfl⟩

/-- What the add-back finds after n rounds of the block that was started in `s` (43_digest_engine.md R113, R114). -/
structure RoundsDone (n : Nat) (s t : State) : Prop where
  arch : t.arch = s.arch
  wv : t.wv = rounds s.x s.ds n
  rc : t.rc = BitVec.ofNat 7 n
  ph : t.ph = s.ph
  fin : t.fin = s.fin
  tail2 : t.tail2 = s.tail2
  inputs : t.inputs = s.inputs.drop n

theorem roundsDone_afterRounds (n : Nat) (s : State) : RoundsDone n s (s.afterRounds n) :=
  ⟨rfl, rfl, rfl, rfl, rfl, rfl, rfl⟩

/-- 64 rounds and the add-back: 65 busy steps from the start of a block (43_digest_engine.md R113, R114). -/
theorem exists_busyUntil_addBack {s : State} (hs : s.Started) (hq : ∀ q ∈ s.inputs.take 65, q.reset = false) :
    ∃ t, RoundsDone 64 s t ∧ BusyUntil 65 s (addBack t).tick := by
  have hq' : ∀ q ∈ s.inputs.take 64, q.reset = false := fun q hm =>
    hq q (List.take_subset_take_left _ (by omega) hm)
  have hbusy := busyUntil_afterRounds hs le_rfl hq'
  have hdone := roundsDone_afterRounds 64 s
  generalize s.afterRounds 64 = t at hbusy hdone
  have hp : t.ph = .run := hdone.ph.trans hs.ph
  have hr : t.pins.reset = false := by
    rw [State.pins, hdone.inputs]
    exact reset_drop hq (by omega)
  have hrc : t.rc.toNat = 64 := by
    rw [hdone.rc]
    rfl
  exact ⟨t, hdone, hbusy.trans (.one hp (step_addBack hr hp hrc))⟩

/-- The command ends in `t` after exactly n busy steps, with the registers `m`. -/
structure CompletesIn (n : Nat) (m : Arch) (s t : State) : Prop where
  busyUntil : BusyUntil n s t
  idle : t.ph = .idle
  arch : t.arch = m
  inputs : t.inputs = s.inputs.drop n

theorem RoundsDone.accumulate_eq_compress {s t : State} (h : RoundsDone 64 s t) :
    accumulate t.ds t.wv = compress s.ds s.x := by
  obtain ⟨hds, -⟩ := (arch_eq_iff t s).mp h.arch
  rw [h.wv, hds, compress]

theorem finishCommand_tick_arch (s : State) (ds : Quad) :
    (finishCommand { s with ds }).tick.arch = { s.arch with ds, fsm := if s.fin then .done else s.fsm } := rfl

/-- The end of the command, with the registers that the rounds left alone (43_digest_engine.md R114). -/
theorem RoundsDone.finishCommand_arch {n : Nat} {s t : State} (h : RoundsDone n s t) (ds : Quad) :
    (finishCommand { t with ds }).tick.arch = { s.arch with ds, fsm := if s.fin then .done else s.fsm } := by
  obtain ⟨-, hfsm, -⟩ := (arch_eq_iff t s).mp h.arch
  rw [finishCommand_tick_arch, h.arch, h.fin, hfsm]

/-- A started block without a second one to come ends its command. -/
theorem exists_completesIn_of_last {s : State} (hs : s.Started) (htail : s.tail2 = false)
    (hq : ∀ q ∈ s.inputs.take 65, q.reset = false) :
    ∃ t, CompletesIn 65 { s.arch with ds := compress s.ds s.x, fsm := if s.fin then .done else s.fsm } s t := by
  obtain ⟨t, hdone, hbusy⟩ := exists_busyUntil_addBack hs hq
  obtain ⟨ht, -⟩ | ⟨-, heq⟩ := addBack_cases t
  · simp [hdone.tail2, htail] at ht
  · rw [heq, hdone.accumulate_eq_compress] at hbusy
    exact ⟨_, hbusy, rfl, hdone.finishCommand_arch _, by simp [hdone.inputs]⟩

/-- The second tail block as it stands once it is started, whatever the add-back wrote (43_digest_engine.md R114). -/
structure SecondTail (ds : Quad) (s t : State) : Prop where
  started : t.Started
  tail2 : t.tail2 = false
  fin : t.fin = s.fin
  x : t.x = decodeBlock (tb2 s.len)
  arch : t.arch = { s.arch with ds }

theorem startBlock_tick_arch (y : List Byte) (s : State) (ds : Quad) :
    (startBlock y { s with ds, tail2 := false }).tick.arch = { s.arch with ds } := rfl

theorem RoundsDone.secondTail {n : Nat} {s t : State} (h : RoundsDone n s t) (ds : Quad) :
    SecondTail ds s (startBlock (tb2 t.len) { t with ds, tail2 := false }).tick := by
  obtain ⟨-, -, hlen, -⟩ := (arch_eq_iff t s).mp h.arch
  refine ⟨startBlock_tick_started _ _, rfl, h.fin, congrArg (decodeBlock <| tb2 ·) hlen, ?_⟩
  rw [startBlock_tick_arch, h.arch]

/-- A started TB1 with TAIL2 = 1 is followed by TB2, from the DS just written (43_digest_engine.md R114). -/
theorem exists_secondTail {s : State} (hs : s.Started) (htail : s.tail2 = true)
    (hq : ∀ q ∈ s.inputs.take 65, q.reset = false) :
    ∃ t, BusyUntil 65 s t ∧ SecondTail (compress s.ds s.x) s t ∧ t.inputs = s.inputs.drop 65 := by
  obtain ⟨t, hdone, hbusy⟩ := exists_busyUntil_addBack hs hq
  obtain ⟨-, heq⟩ | ⟨ht, -⟩ := addBack_cases t
  · rw [heq, hdone.accumulate_eq_compress] at hbusy
    exact ⟨_, hbusy, hdone.secondTail _, by simp [hdone.inputs]⟩
  · simp [hdone.tail2, htail] at ht

/-- A host that does not reset in m + n steps resets neither in the first m nor in the n after them. -/
theorem noReset_split {m n : Nat} {l : List Pins} (h : ∀ q ∈ l.take (m + n), q.reset = false) :
    (∀ q ∈ l.take m, q.reset = false) ∧ ∀ q ∈ (l.drop m).take n, q.reset = false := by
  simpa only [List.take_add, List.forall_mem_append] using h

/-- A started TB1 with TAIL2 = 1 ends its command after TB2. -/
theorem exists_completesIn_of_tail {s : State} (hs : s.Started) (htail : s.tail2 = true)
    (hq : ∀ q ∈ s.inputs.take 130, q.reset = false) :
    ∃ t, CompletesIn 130
      { s.arch with
        ds := compress (compress s.ds s.x) (decodeBlock (tb2 s.len))
        fsm := if s.fin then .done else s.fsm } s t := by
  obtain ⟨hq1, hq2⟩ := noReset_split (m := 65) (n := 65) hq
  obtain ⟨t, hfirst, h2, hinputs⟩ := exists_secondTail hs htail hq1
  obtain ⟨u, hlast⟩ := exists_completesIn_of_last h2.started h2.tail2 (hinputs ▸ hq2)
  obtain ⟨hds, hfsm, -⟩ := (arch_eq_iff t { s with ds := compress s.ds s.x }).mp h2.arch
  refine ⟨u, hfirst.trans hlast.busyUntil, hlast.idle, hlast.arch.trans ?_, hlast.inputs.trans ?_⟩
  · rw [hds, hfsm, h2.x, h2.fin, h2.arch]
  · rw [hinputs, List.drop_drop]

end Sys2Proof.Machine
end

section
/-! From the acceptance of a word to the end of its command, as one transaction (43_digest_engine.md R105, R115). -/

namespace Sys2Proof.Machine

theorem raiseCmdError_arch (e : CmdError) (s : State) : (raiseCmdError e s).arch = s.arch.raise e := by
  unfold raiseCmdError Arch.raise
  cases h : s.err <;> simp [State.arch, h]

/-- A command that compresses nothing is complete in its acceptance step. -/
theorem completesIn_zero {s : State} {m : Arch} (hi : s.ph = .idle) (hm : s.arch = m) : CompletesIn 0 m s s :=
  ⟨.zero s, hi, hm, rfl⟩

theorem acceptAbsorb_completed (s : State) (ds : Quad) :
    { (acceptAbsorb s).tick.arch with
      ds := ds
      fsm := if (acceptAbsorb s).tick.fin then .done else (acceptAbsorb s).tick.fsm } =
    { s.arch.absorb s.pins.din with ds := ds } := by
  unfold Arch.absorb
  rfl

theorem acceptFinal_completed (k : BitVec 6) (s : State) (ds : Quad) :
    { (acceptFinal k s).tick.arch with
      ds := ds
      fsm := if (acceptFinal k s).tick.fin then .done else (acceptFinal k s).tick.fsm } =
    { s.arch.final k s.pins.din with ds := ds } := by
  unfold Arch.final
  rfl

/-- An accepted ABSORB compresses the block on DIN (43_digest_engine.md R108, R111). -/
theorem exists_completesIn_acceptAbsorb {s : State} (hq : ∀ q ∈ s.inputs.tail.take 65, q.reset = false) :
    ∃ t, CompletesIn 65 (s.arch.absorb s.pins.din) (acceptAbsorb s).tick t := by
  have h := exists_completesIn_of_last (s := (acceptAbsorb s).tick) (startBlock_tick_started _ _) rfl hq
  rw [acceptAbsorb_completed] at h
  exact h

theorem compressBlocks_tails_of_le (ds : Quad) {rem : List Byte} (h : rem.length ≤ 55) (l : Word) :
    compressBlocks ds (tails rem l) = compress ds (decodeBlock (tb1 rem l)) := by
  rw [tails, if_pos h]
  rfl

theorem compressBlocks_tails_of_gt (ds : Quad) {rem : List Byte} (h : ¬ rem.length ≤ 55) (l : Word) :
    compressBlocks ds (tails rem l) = compress (compress ds (decodeBlock (tb1 rem l))) (decodeBlock (tb2 l)) := by
  rw [tails, if_neg h]
  rfl

/-- An accepted FINAL compresses its tail blocks in order (43_digest_engine.md R109, R112, R114). -/
theorem exists_completesIn_acceptFinal {s : State} {k : BitVec 6}
    (hq : ∀ q ∈ s.inputs.tail.take (if k.toNat ≤ 55 then 65 else 130), q.reset = false) :
    ∃ t, CompletesIn (if k.toNat ≤ 55 then 65 else 130) (s.arch.final k s.pins.din) (acceptFinal k s).tick t := by
  have hstarted : (acceptFinal k s).tick.Started := startBlock_tick_started _ _
  have hlen : (dinLanes s.pins.din k.toNat).length = k.toNat := dinLanes_length _ _
  by_cases hk : k.toNat ≤ 55
  · rw [if_pos hk] at hq ⊢
    have htail : (acceptFinal k s).tick.tail2 = false := decide_eq_false (by omega)
    have h := exists_completesIn_of_last hstarted htail hq
    rw [acceptFinal_completed] at h
    rw [Arch.final, compressBlocks_tails_of_le _ (hlen.trans_le hk)]
    exact h
  · rw [if_neg hk] at hq ⊢
    have htail : (acceptFinal k s).tick.tail2 = true := decide_eq_true (by omega)
    have h := exists_completesIn_of_tail hstarted htail hq
    rw [acceptFinal_completed] at h
    rw [Arch.final, compressBlocks_tails_of_gt _ (by rwa [hlen])]
    exact h

theorem exists_dispatch (w : BitVec 16) (s : State) : ∃ t, dispatch w s = .next t := by
  unfold dispatch
  split
  · exact ⟨_, exec_command _ s⟩
  · exact ⟨_, rfl⟩

theorem initCommand_arch (s : State) : (clearError (loadIv { s with len := 0, fsm := .init })).arch = .initial := rfl

theorem dispatch_inputs {w : BitVec 16} {s t : State} (h : dispatch w s = .next t) : t.inputs = s.inputs := by
  obtain ⟨e, -, rfl⟩ | ⟨-, rfl⟩ | ⟨-, rfl⟩ | ⟨-, habsorb⟩ | ⟨k, -, hfinal⟩ := dispatch_cases h
  · simp
  · simp
  · simp
  · obtain ⟨-, rfl⟩ | ⟨-, -, rfl⟩ | ⟨-, -, rfl⟩ := habsorb <;> simp [acceptAbsorb]
  · obtain ⟨-, rfl⟩ | ⟨-, -, rfl⟩ | ⟨-, -, rfl⟩ := hfinal <;> simp [acceptFinal]

/-- The accepted word as a transaction: complete at once, an ABSORB started, or a FINAL started
(43_digest_engine.md R105, R115). -/
theorem dispatch_transact_cases {w : BitVec 16} {s t : State} (h : dispatch w s = .next t) (din : BitVec 512) :
    (microSteps w s.arch = 0 ∧ t.ph = s.ph ∧ t.arch = transact w din s.arch) ∨
    (microSteps w s.arch = 65 ∧ t = acceptAbsorb s ∧ transact w din s.arch = s.arch.absorb din) ∨
    (∃ k : BitVec 6, microSteps w s.arch = (if k.toNat ≤ 55 then 65 else 130) ∧ t = acceptFinal k s ∧
      transact w din s.arch = s.arch.final k din) := by
  have herr : s.arch.err = s.err := rfl
  have hfsm : s.arch.fsm = s.fsm := rfl
  simp only [microSteps, transact, herr, hfsm]
  obtain ⟨e, hc, rfl⟩ | ⟨hc, rfl⟩ | ⟨hc, rfl⟩ | ⟨hc, habsorb⟩ | ⟨k, hc, hfinal⟩ := dispatch_cases h
  · exact .inl (by simp [hc, raiseCmdError_arch])
  · exact .inl (by simp [hc, transactCommand])
  · exact .inl ⟨by simp [hc], rfl, by rw [hc]; exact initCommand_arch s⟩
  · obtain ⟨he, rfl⟩ | ⟨he, hd, rfl⟩ | ⟨he, hd, rfl⟩ := habsorb
    · exact .inl (by simp [hc, transactCommand, herr, he])
    · exact .inl (by simp [hc, transactCommand, herr, hfsm, he, hd, raiseCmdError_arch])
    · exact .inr (.inl (by simp [hc, transactCommand, herr, hfsm, he, hd]))
  · obtain ⟨he, rfl⟩ | ⟨he, hd, rfl⟩ | ⟨he, hd, rfl⟩ := hfinal
    · exact .inl (by simp [hc, transactCommand, herr, he])
    · exact .inl (by simp [hc, transactCommand, herr, hfsm, he, hd, raiseCmdError_arch])
    · exact .inr (.inr ⟨k, by simp [hc, transactCommand, herr, hfsm, he, hd]⟩)

/-- Every accepted word completes in its number of micro-steps, with the registers of its transaction
(43_digest_engine.md R105, R115). -/
theorem exists_step_completesIn {s : State} (hi : s.ph = .idle) (hr : s.pins.reset = false)
    (hv : s.pins.cmdValid = true)
    (hq : ∀ q ∈ s.inputs.tail.take (microSteps s.pins.cmd s.arch), q.reset = false) :
    ∃ t u, step s = .next t ∧ t.inputs = s.inputs.tail ∧
      CompletesIn (microSteps s.pins.cmd s.arch) (transact s.pins.cmd s.pins.din s.arch) t u := by
  obtain ⟨t, ht⟩ := exists_dispatch s.pins.cmd s
  have hstep : step s = .next t.tick := by
    rw [step_idle s hr hi, if_pos hv, ht, thenTick]
  suffices h : ∃ u, CompletesIn (microSteps s.pins.cmd s.arch) (transact s.pins.cmd s.pins.din s.arch) t.tick u by
    obtain ⟨u, hu⟩ := h
    exact ⟨t.tick, u, hstep, congrArg List.tail (dispatch_inputs ht), hu⟩
  obtain ⟨hn, hp, hm⟩ | ⟨hn, rfl, hm⟩ | ⟨k, hn, rfl, hm⟩ := dispatch_transact_cases ht s.pins.din
  · rw [hn]
    exact ⟨t.tick, completesIn_zero (hp.trans hi) hm⟩
  · rw [hn] at hq
    rw [hn, hm]
    exact exists_completesIn_acceptAbsorb hq
  · rw [hn] at hq
    rw [hn, hm]
    exact exists_completesIn_acceptFinal hq

/-- Settles O49: the acceptance step, then the busy steps of the command. -/
theorem datapathAgreesWithTheTransactionLevel : Obligations.DatapathAgreesWithTheTransactionLevel := by
  intro s p rest hi hin hr hv n hq
  have hp : s.pins = p := by rw [State.pins, hin, List.headD_cons]
  have hrest : s.inputs.tail = rest := by rw [hin, List.tail_cons]
  subst hp hrest
  obtain ⟨t, u, hstep, hinputs, hdone⟩ := exists_step_completesIn hi hr hv hq
  refine ⟨fun j hj => ?_, u, ?_, busy_eq_false_of_idle hdone.idle, hdone.arch, hinputs ▸ hdone.inputs⟩
  · rw [run_succ j hstep]
    exact hdone.busyUntil.busy j hj
  · rw [run_succ _ hstep]
    exact hdone.busyUntil.run

end Sys2Proof.Machine
end

section
/-! The host that waits for cmd_ready (30_encoding.md R66; 43_digest_engine.md R116 to R118). -/

namespace Sys2Proof.Machine

theorem exists_step_of_run_succ {n : Nat} {s t : State} (h : Host.Core.run Sys2Proof.core (n + 1) s = .next t) :
    ∃ u, step s = .next u := by
  simp only [Host.Core.run] at h
  cases hs : core.step s with
  | next u => exact ⟨u, hs⟩
  | fault r => rw [hs] at h; cases h
  | refused r => rw [hs] at h; cases h

/-- The first of n + 1 busy steps. -/
theorem BusyUntil.head {n : Nat} {s t : State} (h : BusyUntil (n + 1) s t) :
    s.busy = true ∧ ∃ u, step s = .next u ∧ BusyUntil n u t := by
  obtain ⟨v, hv, hb⟩ := h.busy 0 n.succ_pos
  cases hv
  obtain ⟨u, hu⟩ := exists_step_of_run_succ h.run
  refine ⟨hb, u, hu, fun j hj => ?_, run_succ n hu ▸ h.run⟩
  rw [← run_succ j hu]
  exact h.busy (j + 1) (Nat.succ_lt_succ hj)

/-- A host that waits long enough leaves as soon as the block is idle again (30_encoding.md R66). -/
theorem waitReady_of_busyUntil {n k : Nat} {s t : State} (h : BusyUntil n s t) (ht : t.ph = .idle) (hn : n ≤ k) :
    waitReady k s = .next t := by
  induction n generalizing k s with
  | zero =>
    have hrun := h.run
    cases hrun
    cases k <;> simp [waitReady, busy_eq_false_of_idle ht]
  | succ n ih =>
    obtain ⟨hb, u, hu, hrest⟩ := h.head
    obtain ⟨k, rfl⟩ := Nat.exists_eq_add_of_lt hn
    rw [waitReady, if_pos hb, hu]
    exact ih hrest (by omega)

theorem microSteps_le (w : BitVec 16) (m : Arch) : microSteps w m ≤ 130 := by
  unfold microSteps
  split
  · omega
  · split
    case h_2 => split <;> omega
    all_goals omega

/-- A waiting host sees each command as its transaction (43_digest_engine.md R115). -/
theorem exists_hostCommand (o : Offer) {s : State} (hi : s.ph = .idle) :
    ∃ t, hostCommand o s = .next t ∧ t.ph = .idle ∧ t.arch = transact o.cmd o.din s.arch := by
  obtain ⟨t, u, hstep, -, hdone⟩ :=
    exists_step_completesIn (s := { s with inputs := [⟨false, true, o.cmd, o.din⟩] }) hi rfl rfl (by simp)
  refine ⟨u, ?_, hdone.idle, hdone.arch⟩
  rw [hostCommand, hstep]
  exact waitReady_of_busyUntil hdone.busyUntil hdone.idle (microSteps_le _ _)

theorem exists_hostRun (os : List Offer) {s : State} (hi : s.ph = .idle) :
    ∃ t, hostRun os s = .next t ∧ t.ph = .idle ∧ t.arch = transactAll os s.arch := by
  induction os generalizing s with
  | nil => exact ⟨s, rfl, hi, rfl⟩
  | cons o os ih =>
    obtain ⟨t, ht, hidle, harch⟩ := exists_hostCommand o hi
    obtain ⟨u, hu, hend, hm⟩ := ih hidle
    refine ⟨u, ?_, hend, ?_⟩
    · rw [hostRun, ht]
      exact hu
    · rw [hm, harch, transactAll_cons]

/-- Settles O52: the host's run is the canonical sequence of transactions, and an idle block shows its DS. -/
theorem waitingHostReadsTheMessageDigest : Obligations.WaitingHostReadsTheMessageDigest := by
  intro m s hi
  obtain ⟨t, ht, hidle, harch⟩ := exists_hostRun (canonical m) hi
  have hb := busy_eq_false_of_idle hidle
  rw [canonicalSequenceGivesTheMessageDigest m s.arch] at harch
  generalize messageState m = q at harch ⊢
  obtain ⟨hds, hfsm, -, herr, hcause⟩ : t.ds = q ∧ t.fsm = .done ∧ t.len = bitLength m.length ∧ t.err = false ∧
      t.errCause = 0 := by simpa [State.arch] using harch
  have hstatus : t.status = 0x03 := by
    rw [State.status, hcause, herr, hb, hfsm]
    rfl
  have hready : t.resultReady = true := by
    rw [State.resultReady, hstatus]
    rfl
  refine ⟨t, ht, hidle, hstatus, hready, hds, ?_, ?_⟩
  · rw [State.digestPort, hb, hds]
    rfl
  · rw [State.hexPort, hb, hds]
    rfl

end Sys2Proof.Machine
end

section
/-! The views of the digest: its bytes and its characters, and the lanes of DIGEST and HEX (44_hex_encoder.md R121 to
R126). -/

namespace Sys2Proof.Machine

/-! ### The digest's bytes -/

@[simp] theorem digestBytes_length (q : Quad) : (digestBytes q).length = 16 := rfl

/-- Byte 4w + j of the digest is byte j of word w, the words in order A, B, C, D (R121). -/
theorem byteAt_digestBytes (q : Quad) {w j : Nat} (hw : w < 4) (hj : j < 4) :
    byteAt (digestBytes q) (4 * w + j) = ([q.a, q.b, q.c, q.d].getD w 0).extractLsb' (8 * j) 8 := by
  interval_cases w <;> interval_cases j <;> rfl

theorem digestView_extractLsb' (q : Quad) {i : Nat} (h : i < 16) :
    (digestView q).extractLsb' (8 * i) 8 = byteAt (digestBytes q) i :=
  extractLsb'_ofNat_lanesToNat _ (by omega)

/-- Four lanes that hold a word's bytes hold the word. -/
theorem lanesToNat_le32_append (v : Word) (y : List Byte) :
    lanesToNat (le32 v ++ y) = v.toNat + 2 ^ 32 * lanesToNat y := by
  have hv : v.toNat < 2 ^ 32 := v.isLt
  simp only [le32, List.cons_append, List.nil_append, lanesToNat, BitVec.extractLsb'_toNat, Nat.shiftRight_eq_div_pow]
  omega

/-- A port that shows a word's bytes before others has the word in its low 32 bits. -/
theorem ofNat_lanesToNat_le32_append (n : Nat) (v : Word) (y : List Byte) :
    BitVec.ofNat (n + 32) (lanesToNat (le32 v ++ y)) = BitVec.ofNat n (lanesToNat y) ++ v := by
  apply BitVec.eq_of_toNat_eq
  rw [lanesToNat_le32_append, BitVec.toNat_append, BitVec.toNat_ofNat, BitVec.toNat_ofNat,
    ← Nat.shiftLeft_add_eq_or_of_lt v.isLt, Nat.shiftLeft_eq, Nat.add_comm n 32, pow_add, Nat.mod_mul]
  have hv : v.toNat < 2 ^ 32 := v.isLt
  have hdiv : (v.toNat + 2 ^ 32 * lanesToNat y) / 2 ^ 32 = lanesToNat y := by omega
  rw [hdiv]
  omega

/-- The 128-bit concatenation of R122. -/
theorem digestView_eq_append (q : Quad) : digestView q = q.d ++ q.c ++ q.b ++ q.a := by
  have hbytes : digestBytes q = le32 q.a ++ (le32 q.b ++ (le32 q.c ++ (le32 q.d ++ []))) := rfl
  have hlast : BitVec.ofNat 0 (lanesToNat []) ++ q.d = q.d := BitVec.zero_width_append _ _
  rw [digestView, hbytes, ofNat_lanesToNat_le32_append 96, ofNat_lanesToNat_le32_append 64,
    ofNat_lanesToNat_le32_append 32, ofNat_lanesToNat_le32_append 0, hlast]

/-- Settles O55: each lane is its byte, and a word's four lanes are the word, so the words stand side by side. -/
theorem digestBytesAreLittleEndianInOrder : Obligations.DigestBytesAreLittleEndianInOrder := fun q =>
  ⟨digestBytes_length q, fun _ hw _ hj => byteAt_digestBytes q hw hj, fun _ hi => digestView_extractLsb' q hi,
    digestView_eq_append q⟩

/-! ### The digest's characters -/

/-- The character of a nibble as a number (R123). -/
theorem hexchar_toNat (v : BitVec 4) :
    (hexchar v).toNat = if v.toNat ≤ 9 then 0x30 + v.toNat else 0x61 + (v.toNat - 10) := by
  have hv : v.toNat < 16 := v.isLt
  unfold hexchar
  split <;> exact Nat.mod_eq_of_lt (by omega)

theorem hexchar_is_digit_or_letter (v : BitVec 4) :
    (0x30 ≤ (hexchar v).toNat ∧ (hexchar v).toNat ≤ 0x39) ∨ (0x61 ≤ (hexchar v).toNat ∧ (hexchar v).toNat ≤ 0x66) := by
  have hv : v.toNat < 16 := v.isLt
  rw [hexchar_toNat]
  split <;> omega

@[simp] theorem hexEncode_length (q : Quad) : (hexEncode q).length = 32 := rfl

/-- Characters 2i and 2i + 1 are those of byte i, the high nibble first (R124). -/
theorem byteAt_flatMap_hexOfByte {y : List Byte} {i : Nat} (h : i < y.length) :
    byteAt (y.flatMap hexOfByte) (2 * i) = hexchar ((byteAt y i).extractLsb' 4 4) ∧
    byteAt (y.flatMap hexOfByte) (2 * i + 1) = hexchar ((byteAt y i).extractLsb' 0 4) := by
  induction y generalizing i with
  | nil => exact absurd h (Nat.not_lt_zero i)
  | cons b bs ih =>
    cases i with
    | zero => exact ⟨rfl, rfl⟩
    | succ i => exact ih (Nat.lt_of_succ_lt_succ h)

theorem hexView_extractLsb' (q : Quad) {c : Nat} (h : c < 32) :
    (hexView q).extractLsb' (8 * c) 8 = byteAt (hexEncode q) c :=
  extractLsb'_ofNat_lanesToNat _ (by omega)

/-- The digest of the message `abc` (R124). -/
theorem hexEncode_abc : hexEncode ⟨0x98500190, 0xb04fd23c, 0x7d3f96d6, 0x727fe128⟩ =
    "900150983cd24fb0d6963f7d28e17f72".toList.map fun ch => BitVec.ofNat 8 ch.toNat := by decide

/-- Settles O56: the characters by induction on the digest's bytes; each lane of HEX is its character. -/
theorem hexShowsEachByteHighNibbleFirst : Obligations.HexShowsEachByteHighNibbleFirst :=
  ⟨hexchar_toNat, fun q => ⟨hexEncode_length q, fun _ hc => hexView_extractLsb' q hc,
    fun _ hi => byteAt_flatMap_hexOfByte hi⟩, hexEncode_abc⟩

theorem exists_byteAt_hexEncode_eq_hexchar (q : Quad) {c : Nat} (h : c < 32) :
    ∃ v, byteAt (hexEncode q) c = hexchar v := by
  have hi : c / 2 < (digestBytes q).length := by rw [digestBytes_length]; omega
  obtain ⟨hhigh, hlow⟩ := byteAt_flatMap_hexOfByte hi
  obtain hc | hc : c = 2 * (c / 2) ∨ c = 2 * (c / 2) + 1 := by omega
  · rw [hc]
    exact ⟨_, hhigh⟩
  · rw [hc]
    exact ⟨_, hlow⟩

/-- Settles O57: HEX shows the characters of four words, busy or not, and every character is a nibble's. -/
theorem hexIsAlways32LowercaseDigits : Obligations.HexIsAlways32LowercaseDigits := by
  intro s c hc
  obtain ⟨v, hv⟩ := exists_byteAt_hexEncode_eq_hexchar (if s.busy then freeHexQuad s.draw else s.ds) hc
  rw [State.hexPort, hexView_extractLsb' _ hc, hv]
  exact hexchar_is_digit_or_letter v

end Sys2Proof.Machine
end

section
/-! Command errors: what they record, what stands while they stand, and what clears them (60_exceptions.md R128 to R134). -/

namespace Sys2Proof.Machine

/-- The first error is recorded with its cause (60_exceptions.md R130). -/
theorem raiseCmdError_of_no_err (e : CmdError) {s : State} (he : s.err = false) :
    raiseCmdError e s = { s with err := true, errCause := e.code } := by
  simp [raiseCmdError, he]

theorem exec_absorb_of_done {s : State} (he : s.err = false) (hd : s.fsm = .done) :
    exec .absorb s = .next { s with err := true, errCause := 3 } := by
  refine (exec_command .absorb s).trans ?_
  simp [unlessError, he, hd, raiseCmdError_of_no_err _ he, CmdError.code]

theorem exec_final_of_done {s : State} (k : BitVec 6) (he : s.err = false) (hd : s.fsm = .done) :
    exec (.final k) s = .next { s with err := true, errCause := 4 } := by
  refine (exec_command (.final k) s).trans ?_
  simp [unlessError, he, hd, raiseCmdError_of_no_err _ he, CmdError.code]

/-- Settles O30: the check of FSM fails, and the first error is recorded. -/
theorem absorbAndFinalAfterDoneAreErrors : Obligations.AbsorbAndFinalAfterDoneAreErrors :=
  fun k _ hd he => ⟨exec_absorb_of_done he hd, exec_final_of_done k he hd⟩

/-- While ERR = 1 a command other than INIT has no effect (60_exceptions.md R131). -/
theorem exec_command_of_err {c : Command} (hc : c ≠ .init) {s : State} (he : s.err = true) :
    exec c.toInstr s = .next s := by
  rw [exec_command]
  cases c with
  | nop => rfl
  | init => exact absurd rfl hc
  | absorb => simp [unlessError, he]
  | final k => simp [unlessError, he]

/-- An illegal word raises its error (43_digest_engine.md R105). -/
theorem dispatch_of_illegal {w : BitVec 16} {e : CmdError} (h : decodeCmd w = .illegal e) (s : State) :
    dispatch w s = .next (raiseCmdError e s) := by
  rw [dispatch, h]

/-- While ERR = 1 a word other than INIT's has no effect, legal or not (60_exceptions.md R131, R133). -/
theorem dispatch_of_err {w : BitVec 16} (hw : w ≠ 0x0001) {s : State} (he : s.err = true) : dispatch w s = .next s := by
  cases hd : decodeCmd w with
  | legal c =>
    have hc : c ≠ .init := by
      rintro rfl
      exact hw (eq_of_decodeCmd_legal hd)
    rw [dispatch, hd]
    exact exec_command_of_err hc he
  | illegal e =>
    rw [dispatch_of_illegal hd, raiseCmdError_of_err e s he]

/-- Settles O31: only the word 0x0001 decodes to INIT, and a further error is not recorded. -/
theorem nothingButInitActsWhileErrorStands : Obligations.NothingButInitActsWhileErrorStands := fun _ he =>
  ⟨fun _ hw => dispatch_of_err hw he, exec_command_of_err (c := .nop) (by decide) he,
    exec_command_of_err (c := .absorb) (by decide) he,
    fun k => exec_command_of_err (c := .final k) (by simp) he⟩

/-- An idle block without an error that is offered an illegal word records its cause (43_digest_engine.md R105;
60_exceptions.md R130, R134). -/
theorem step_of_illegal {s : State} {e : CmdError} (hr : s.pins.reset = false) (hi : s.ph = .idle)
    (hv : s.pins.cmdValid = true) (he : s.err = false) (hc : decodeCmd s.pins.cmd = .illegal e) :
    step s = .next { s with err := true, errCause := e.code, inputs := s.inputs.tail, draw := s.draw + 1 } := by
  rw [step_idle s hr hi, if_pos hv, dispatch_of_illegal hc, raiseCmdError_of_no_err e he]
  rfl

/-- Cause 2: RSV under a legal opcode, or K under NOP, INIT or ABSORB (60_exceptions.md R128, R129). -/
theorem decodeCmd_of_reserved_field {w : BitVec 16} (hop : w.toNat % 8 < 4)
    (hfield : w.toNat / 512 ≠ 0 ∨ (w.toNat % 8 < 3 ∧ w.toNat / 8 % 64 ≠ 0)) : decodeCmd w = .illegal .rsvdField := by
  by_cases hrsv : w.toNat / 512 = 0
  · obtain hne | ⟨hop3, hk⟩ := hfield
    · exact absurd hrsv hne
    · exact decodeCmd_of_k hop3 hrsv hk
  · exact decodeCmd_of_rsv hop hrsv

/-- Settles O32: the check order of the decoder picks the cause, and the step records it. -/
theorem illegalWordRecordsItsCauseAndNothingElse : Obligations.IllegalWordRecordsItsCauseAndNothingElse := by
  refine ⟨fun e s => by cases e <;> rfl, ?_⟩
  intro s hr hi hv he op k rsv
  refine ⟨fun hop => ?_, fun hop hfield => ?_⟩
  · exact step_of_illegal hr hi hv he (decodeCmd_of_reserved_op hop)
  · exact step_of_illegal hr hi hv he (decodeCmd_of_reserved_field hop hfield)

/-- Neither a round nor the add-back touches the error registers (43_digest_engine.md R113, R114). -/
theorem microStep_keeps_error {s t : State} (h : microStep s = .next t) : t.err = s.err ∧ t.errCause = s.errCause := by
  obtain ⟨-, rfl⟩ | ⟨-, rfl⟩ := microStep_cases h
  · exact ⟨rfl, rfl⟩
  · obtain ⟨-, heq⟩ | ⟨-, heq⟩ := addBack_cases s <;> rw [heq] <;> exact ⟨rfl, rfl⟩

/-- Settles O33: of the events of a step only a reset and the dispatch of INIT change a recorded error. -/
theorem onlyInitAndResetClearAnError : Obligations.OnlyInitAndResetClearAnError := by
  intro s t hs he
  obtain ⟨u, rfl, ⟨hr, -⟩ | ⟨-, -, hm⟩ | ⟨-, hb, ha, hd⟩ | ⟨-, -, -, rfl⟩⟩ := step_cases hs
  · exact .inl hr
  · obtain ⟨herr, hcause⟩ := microStep_keeps_error hm
    exact .inr (.inr ⟨herr.trans he, hcause⟩)
  · by_cases hw : s.pins.cmd = 0x0001
    · exact .inr (.inl ⟨hb, ha, hw⟩)
    · rw [dispatch_of_err hw he] at hd
      cases hd
      exact .inr (.inr ⟨he, rfl⟩)
  · exact .inr (.inr ⟨he, rfl⟩)

end Sys2Proof.Machine
end

section
/-! A step always has a next state under the invariant (60_exceptions.md R127; 10_state.md R20), and an idle block that is
offered nothing holds its state (60_exceptions.md R142). -/

namespace Sys2Proof.Machine

/-- Settles O38: the event of an idle step without an offer is the state itself. -/
theorem idleBlockHoldsItsState : Obligations.IdleBlockHoldsItsState := by
  intro s hr hi hv
  rw [step_idle s hr hi, hv]
  rfl

/-- Up to RC = 64 a micro-step is a round or the add-back (43_digest_engine.md R113, R114). -/
theorem exists_microStep {s : State} (hrc : s.rc.toNat ≤ 64) : ∃ t, microStep s = .next t := by
  unfold microStep
  split
  · exact ⟨_, exec_decodeRound _ s⟩
  · rw [if_pos (by omega)]
    exact ⟨_, rfl⟩

/-- No event of a step stops, unless a running block has an RC above 64. -/
theorem exists_event {s : State} (hrun : s.ph = .run → s.rc.toNat ≤ 64) : ∃ t, event s = .next t := by
  unfold event
  split
  · exact ⟨_, rfl⟩
  · split
    next hb => exact exists_microStep (hrun ((busy_iff_run s).mp hb))
    next =>
      split
      · exact exists_dispatch _ s
      · exact ⟨_, rfl⟩

/-- Settles O45: under the invariant RC is at most 64 while a compression runs. -/
theorem invariantStatesNeverStop : Obligations.InvariantStatesNeverStop := by
  rintro s ⟨-, hrun, -⟩
  obtain ⟨t, ht⟩ := exists_event fun hp => (hrun hp).1
  exact ⟨t.tick, by rw [step, ht, thenTick]⟩

end Sys2Proof.Machine
end

section
/-! The hazards of the host: a running block reads nothing but the reset pin, so DIN, CMD and cmd_valid may change under
it (70_reset_and_hazards.md R149, R150). -/

namespace Sys2Proof.Machine

/-- The add-back does not read the pins: it builds the second tail block from LEN (43_digest_engine.md R114). -/
theorem addBack_with_inputs (s : State) (l : List Pins) :
    addBack { s with inputs := l } = { addBack s with inputs := l } := by
  obtain ⟨htail, heq⟩ | ⟨htail, heq⟩ := addBack_cases s
  · rw [heq, addBack, if_pos htail]
    rfl
  · rw [heq, addBack, if_neg (by simp [htail])]
    rfl

/-- The pins of the present step do not enter a micro-step, and after it they are gone. -/
theorem thenTick_microStep_cons (s : State) (p q : Pins) (rest : List Pins) :
    thenTick (microStep { s with inputs := p :: rest }) = thenTick (microStep { s with inputs := q :: rest }) := by
  by_cases hround : s.rc.toNat ≤ 63
  · simp only [microStep, if_pos hround, exec_decodeRound]
    rfl
  · by_cases hadd : s.rc.toNat = 64
    · simp only [microStep, if_neg hround, if_pos hadd, addBack_with_inputs]
      rfl
    · simp only [microStep, if_neg hround, if_neg hadd]

/-- Settles O39: without a reset a running block takes a micro-step. -/
theorem busyBlockIgnoresWhatTheHostOffers : Obligations.BusyBlockIgnoresWhatTheHostOffers := by
  intro s p q rest hrun hp hq
  refine ⟨by simp [State.cmdReady, (busy_iff_run s).mpr hrun], ?_⟩
  calc step { s with inputs := p :: rest }
    _ = thenTick (microStep { s with inputs := p :: rest }) := step_run _ hp hrun
    _ = thenTick (microStep { s with inputs := q :: rest }) := thenTick_microStep_cons s p q rest
    _ = step { s with inputs := q :: rest } := (step_run { s with inputs := q :: rest } hq hrun).symm

end Sys2Proof.Machine
end

section
/-! Reset, and when the outputs are a result (70_reset_and_hazards.md R143, R144, R151). -/

namespace Sys2Proof.Machine

theorem digestPort_of_idle {s : State} (h : s.ph = .idle) : s.digestPort = digestView s.ds := by
  simp [State.digestPort, busy_eq_false_of_idle h]

theorem hexPort_of_idle {s : State} (h : s.ph = .idle) : s.hexPort = hexView s.ds := by
  simp [State.hexPort, busy_eq_false_of_idle h]

/-- The low half of STATUS: ERR, BUSY, FSM (10_state.md R29). -/
theorem status_low (s : State) :
    s.status.extractLsb' 0 4 = BitVec.ofBool s.err ++ BitVec.ofBool s.busy ++ s.fsm.code := by
  apply BitVec.eq_of_getLsbD_eq (w := 1 + 1 + 2)
  intro i hi
  rw [BitVec.getLsbD_extractLsb', status_getLsbD, BitVec.getLsbD_append, BitVec.getLsbD_append]
  interval_cases i <;> simp

theorem append_code_eq_three_iff (err busy : Bool) (f : Fsm) :
    BitVec.ofBool err ++ BitVec.ofBool busy ++ f.code = 0b0011 ↔ f = .done ∧ busy = false ∧ err = false := by
  revert err busy
  cases f <;> decide

/-- Settles O58: the low half of STATUS has the three fields, and an idle block shows DS. -/
theorem resultIsReadyExactlyWhenDone : Obligations.ResultIsReadyExactlyWhenDone := by
  refine fun s => ⟨?_, fun hi => ⟨digestPort_of_idle hi, hexPort_of_idle hi⟩⟩
  rw [State.resultReady, beq_iff_eq, status_low, append_code_eq_three_iff, busy_eq_false_iff_idle]

/-- STATUS after INIT and after reset (43_digest_engine.md R107; 70_reset_and_hazards.md R143). -/
theorem status_of_initial {s : State} (ha : s.arch = .initial) (hi : s.ph = .idle) : s.status = 0x00 := by
  simp only [State.arch, Arch.initial, Arch.mk.injEq] at ha
  obtain ⟨-, hfsm, -, herr, hcause⟩ := ha
  rw [State.status, hcause, herr, busy_eq_false_of_idle hi, hfsm]
  rfl

theorem cmdReady_of_idle {s : State} (h : s.ph = .idle) : s.cmdReady = true := by
  simp [State.cmdReady, busy_eq_false_of_idle h]

/-- Settles O41: the reset wins over every other event, and its registers are those of INIT. -/
theorem resetFromAnyStateGivesTheResetState : Obligations.ResetFromAnyStateGivesTheResetState := by
  intro s h
  have hidle : (resetEvent s).tick.ph = .idle := rfl
  exact ⟨(resetEvent s).tick, step_reset s h, rfl, rfl, rfl, rfl, rfl, hidle, status_of_initial rfl hidle,
    cmdReady_of_idle hidle, digestPort_of_idle hidle, hexPort_of_idle hidle, rfl, _, exec_command .init s, rfl⟩

/-- The lanes of HEX, read in order, are the characters (44_hex_encoder.md R125). -/
theorem map_extractLsb'_hexView (q : Quad) :
    (List.range 32).map (fun c => (hexView q).extractLsb' (8 * c) 8) = hexEncode q := by
  apply List.ext_getElem
  · simp
  · intro c _ hc
    rw [List.getElem_map, List.getElem_range, hexView_extractLsb' q hc, byteAt, List.getD_eq_getElem]

/-- The characters of the IV (70_reset_and_hazards.md R143). -/
theorem hexEncode_iv : hexEncode iv =
    "0123456789abcdeffedcba9876543210".toList.map fun ch => BitVec.ofNat 8 ch.toNat := by decide

/-- Settles O42: the reset state is idle with the registers of INIT, so its ports are the views of the IV. -/
theorem stateAfterResetShowsTheInitialValue : Obligations.StateAfterResetShowsTheInitialValue := by
  have hidle : State.reset.ph = .idle := rfl
  refine ⟨rfl, hidle, status_of_initial rfl hidle, ?_, ?_⟩
  · rw [digestPort_of_idle hidle, digestView_eq_append]
    rfl
  · rw [hexPort_of_idle hidle]
    exact (map_extractLsb'_hexView iv).trans hexEncode_iv

end Sys2Proof.Machine
end
